-- ==== Sys2Proof/Word.lean ====
section
/-! DEFINITION. The words of the TW-6: the byte its station ports carry and the value of its yard clock. -/

namespace Sys2Proof

/-- One character on a station port (R173: 8 data bits). -/
abbrev Byte := BitVec 8

/-- A value of the yard clock: a count of seconds from 0 to 2^32 − 1 that wraps (R130). -/
abbrev ClockValue := BitVec 32

end Sys2Proof
end

