-- ==== Sys2Proof/Syntax.lean ====
section
/-! DEFINITION. The commands of the TW-6: one constructor for each row of spec/opcode_table.json. -/

namespace Sys2Proof

/-- The six station ports (00 §1.1, R158). Port A belongs to the yard office. -/
inductive Port
  | A | B | C | D | E | F
  deriving DecidableEq, Repr, Inhabited

/-- A tanker slot, 0 to 31 (R1). -/
abbrev TankerSlot := Fin 32

/-- A compartment slot, 0 to 191 (R2). -/
abbrev Slot := Fin 192

/-- A field line, 0 to 23 (R140). -/
abbrev LineNo := Fin 24

/-- A fill arm: arm a of the manual (1 to 4) is index a − 1 (R107). -/
abbrev Arm := Fin 4

/-- A product class, 0 to 15 (R28). -/
abbrev ClassNo := Fin 16

/-- The thirty-eight requests of R183, in the table's order. -/
inductive ReqName
  | readStatus | readLines | setReplyLimit | readCompartment | readRecords | readQueue
  | setTime | defineProduct | deleteProduct | setMatrixRow | defineProgram | setClassLimit
  | setPortRole | setAccessMap | configureLine | lockLines | setLine | setProbeCalibration
  | mapArm | clearYard
  | registerTanker | book | revoke | unblock | ackIncident | departTanker
  | nextWork | stepStart | washSample | giveBack | undock
  | inspectBegin | inspectResult | inspectCancel
  | fillBegin | fillVolume | fillResume | fillEnd
  deriving DecidableEq, Repr

/-- The commands of the block. The first twelve are events of the clock, the lines and the links. The others are
requests, taken from the port they name: a short-frame request carries its two argument bytes, a long-frame request its
payload (R174, R183). -/
inductive Instr
  /-- R23: a reset from the reset pin or from power-up. -/
  | hardwareReset
  /-- R130: one advance of the one-second timebase. -/
  | yardClockAdvance
  /-- R81: the record in this slot takes the advance that brings its silence seconds to 60. -/
  | silenceExpiry (k : Slot)
  /-- R82: the record in this slot takes the advance that brings its active seconds to the step's maximum. -/
  | activeTimeExpiry (k : Slot)
  /-- R103: the record in this slot takes the advance that brings its remaining validity to 0. -/
  | releaseExpiry (k : Slot)
  /-- R143: one sample of a line; `high` is the electrical level of its pin. -/
  | inputSample (l : LineNo) (high : Bool)
  /-- R147: one conversion of a line to a 10-bit raw value. -/
  | analogConversion (l : LineNo) (raw : BitVec 10)
  /-- R177: a character arrives on a port. -/
  | byteReceived (p : Port) (b : Byte)
  /-- R177: a break arrives on a port. -/
  | breakReceived (p : Port)
  /-- R177: more than 20 ms pass with no byte in HEADER or PAYLOAD. -/
  | gap (p : Port)
  /-- R177, R179: 20 ms of quiet end DISCARD. -/
  | discardEnd (p : Port)
  /-- R180: the last byte of the port's reply has been sent. -/
  | replySent (p : Port)
  | readStatus (p : Port) (b1 b2 : Byte)
  | readLines (p : Port) (b1 b2 : Byte)
  | setReplyLimit (p : Port) (b1 b2 : Byte)
  | readCompartment (p : Port) (payload : List Byte)
  | readRecords (p : Port) (payload : List Byte)
  | readQueue (p : Port) (b1 b2 : Byte)
  | setTime (p : Port) (payload : List Byte)
  | defineProduct (p : Port) (payload : List Byte)
  | deleteProduct (p : Port) (b1 b2 : Byte)
  | setMatrixRow (p : Port) (payload : List Byte)
  | defineProgram (p : Port) (payload : List Byte)
  | setClassLimit (p : Port) (payload : List Byte)
  | setPortRole (p : Port) (payload : List Byte)
  | setAccessMap (p : Port) (payload : List Byte)
  | configureLine (p : Port) (payload : List Byte)
  | lockLines (p : Port) (b1 b2 : Byte)
  | setLine (p : Port) (b1 b2 : Byte)
  | setProbeCalibration (p : Port) (payload : List Byte)
  | mapArm (p : Port) (b1 b2 : Byte)
  | clearYard (p : Port) (b1 b2 : Byte)
  | registerTanker (p : Port) (payload : List Byte)
  | book (p : Port) (payload : List Byte)
  | revoke (p : Port) (payload : List Byte)
  | unblock (p : Port) (payload : List Byte)
  | ackIncident (p : Port) (payload : List Byte)
  | departTanker (p : Port) (b1 b2 : Byte)
  | nextWork (p : Port) (b1 b2 : Byte)
  | stepStart (p : Port) (payload : List Byte)
  | washSample (p : Port) (payload : List Byte)
  | giveBack (p : Port) (payload : List Byte)
  | undock (p : Port) (b1 b2 : Byte)
  | inspectBegin (p : Port) (payload : List Byte)
  | inspectResult (p : Port) (payload : List Byte)
  | inspectCancel (p : Port) (payload : List Byte)
  | fillBegin (p : Port) (payload : List Byte)
  | fillVolume (p : Port) (payload : List Byte)
  | fillResume (p : Port) (payload : List Byte)
  | fillEnd (p : Port) (payload : List Byte)
  deriving DecidableEq, Repr

end Sys2Proof
end

