-- ==== Sys2Proof/Machine/Records.lean ====
section
/-! DEFINITION. The records the TW-6 keeps: tankers, compartments, catalogue, programs, ports, lines, probes.
All of it is plain data. -/

namespace Sys2Proof.Machine

/-- Something kept once for each of the six station ports. -/
structure PerPort (α : Type) where
  A : α
  B : α
  C : α
  D : α
  E : α
  F : α
  deriving DecidableEq, Repr

/-- The kinds of station a port may serve (R158). -/
inductive Role
  | none | office | wash | inspect | fill
  deriving DecidableEq, Repr

/-- A set drawn from STEAM, SOLVENT and FOOD: a bay's capabilities or a plan's needs (R158, R36). -/
structure Caps where
  steam : Bool
  solvent : Bool
  food : Bool
  deriving DecidableEq, Repr

/-- What a bay passes through a compartment during a step (R32). -/
inductive Medium
  | rinse | detergent | caustic | steam | solvent | air
  deriving DecidableEq, Repr, Inhabited

/-- The two groups of the wash queue (R47). -/
inductive Priority
  | urgent | normal
  deriving DecidableEq, Repr

/-- One step of a wash program or plan (R32). -/
structure WashStep where
  medium : Medium
  /-- minimum temperature, tenths of a degree -/
  tMin : Nat
  /-- minimum flow -/
  fMin : Nat
  /-- required dose -/
  dReq : Nat
  /-- maximum active time, seconds -/
  maxActive : Nat
  deriving DecidableEq, Repr, Inhabited

/-- One entry of the product catalogue (R24). -/
structure Product where
  code : Nat
  cls : ClassNo
  food : Bool
  minLevelAfter : Nat
  fillPercent : Nat
  deriving DecidableEq, Repr

/-- One row of the class limit table (R30). -/
structure ClassLimit where
  conductivity : Nat
  validityHours : Nat
  deriving DecidableEq, Repr

/-- What a compartment is booked to carry next (R5). Target code 0 is a clean return. -/
structure Booking where
  target : Nat
  cls : ClassNo
  priority : Priority
  deriving DecidableEq, Repr

/-- The wash plan of a compartment (R5, R65). -/
structure Plan where
  level : Nat
  steps : List WashStep
  /-- current step index, counted from 1 -/
  index : Nat
  /-- step dose -/
  dose : Nat
  /-- active seconds -/
  active : Nat
  /-- silence seconds -/
  silence : Nat
  /-- mismatch count -/
  mismatch : Nat
  foodBay : Bool
  needs : Caps
  deriving DecidableEq, Repr

/-- Why a step is stalled (R64). -/
inductive StallCause
  | silence | overrun | medium
  deriving DecidableEq, Repr

/-- The phase of a WASHING compartment (R64). -/
inductive WashPhase
  | between | active | stalled (cause : StallCause)
  deriving DecidableEq, Repr

/-- Where the conductivity of a reading came from (R6). -/
inductive Source
  | reported | probe
  deriving DecidableEq, Repr

/-- The inspection reading (R6). -/
structure Reading where
  conductivity : Nat
  source : Source
  deriving DecidableEq, Repr

/-- The release record (R6, R97). -/
structure Release where
  target : Nat
  performed : Nat
  foodBay : Bool
  conductivity : Nat
  closureTag : Nat
  time : ClockValue
  remaining : Nat
  frozen : Bool
  deriving DecidableEq, Repr

/-- The halt set of a fill: FLOWING when it is empty, HALTED otherwise (R4, R117). -/
structure HaltSet where
  limit : Bool
  ground : Bool
  overfill : Bool
  deriving DecidableEq, Repr

/-- The fill record (R7). -/
structure Fill where
  arm : Arm
  product : Nat
  limit : Nat
  delivered : Nat
  deriving DecidableEq, Repr

/-- The loaded quantity (R7); `partLoaded` is its partial flag. -/
structure Loaded where
  quantity : Nat
  partLoaded : Bool
  deriving DecidableEq, Repr

/-- The kinds of incident (R8, R133). -/
inductive IncidentKind
  | groundLost | overfillWet | overLimit | tagMismatch | releaseExpired | blocked | fillRevoked
  deriving DecidableEq, Repr

/-- An incident as the slot keeps it (R8). -/
structure Incident where
  kind : IncidentKind
  time : ClockValue
  port : Option Port
  detail : Nat
  deriving DecidableEq, Repr

/-- The state of a compartment with the optional parts R10 gives each state: what a state does not have cannot be
written down. -/
inductive CompState
  | arrived
  | queued (b : Booking) (pl : Plan)
  | washing (b : Booking) (pl : Plan) (holder : Port) (phase : WashPhase)
  | washed (b : Booking) (pl : Plan)
  | inspecting (b : Booking) (pl : Plan) (holder : Port)
  | released (b : Booking) (pl : Plan) (r : Release)
  | filling (b : Booking) (pl : Plan) (holder : Port) (r : Release) (f : Fill) (halts : HaltSet)
  | loaded (q : Loaded)
  | blockedForbidden (b : Booking)
  | blockedFaults (b : Booking) (pl : Option Plan)
  deriving DecidableEq, Repr

/-- The last product with its class, copied when it is set (R3). Code 0 is CLEAN. -/
structure LastProduct where
  code : Nat
  cls : ClassNo
  deriving DecidableEq, Repr

/-- A compartment record (R3 to R9). -/
structure Comp where
  tag : Nat
  index : Nat
  capacity : Nat
  /-- absent: the last product is unknown -/
  last : Option LastProduct
  performed : Nat
  faults : Nat
  st : CompState
  reading : Option Reading
  incident : Option Incident
  overflow : Bool
  /-- The model's own mark: an advance has reached the record and the expiry it brings is not yet taken (R131). -/
  advanceDue : Bool
  deriving DecidableEq, Repr

/-- A tanker record (R1). Its slot number is its place in the table. -/
structure Tanker where
  tag : Nat
  count : Nat
  arrival : ClockValue
  docked : Option Port
  deriving DecidableEq, Repr

/-- An entry of the wash queue names one compartment by tag and index (R47). -/
structure Entry where
  tag : Nat
  index : Nat
  deriving DecidableEq, Repr

/-- The link flags of a port (R181). -/
structure LinkFlags where
  header : Bool
  payload : Bool
  gap : Bool
  brk : Bool
  length : Bool
  code : Bool
  overrun : Bool
  deriving DecidableEq, Repr

/-- A reply a port is sending: its type byte and its payload (R182). -/
structure Reply where
  typeByte : Byte
  payload : List Byte
  deriving DecidableEq, Repr

/-- The receive state of a port with what it keeps there (R173, R177): the partial frame in HEADER and PAYLOAD, the
LINK reply owed after a LENGTH fault in DISCARD (its type byte), the reply being sent in REPLYING. -/
inductive Rx
  | idle
  | header (got : List Byte)
  | payload (got : List Byte)
  | discard (owed : Option Byte)
  | replying (r : Reply)
  deriving DecidableEq, Repr

/-- What the part holds for one station port (R158, R171, R173). -/
structure PortRec where
  rx : Rx
  flags : LinkFlags
  limit : Nat
  role : Role
  caps : Caps
  denied : List ReqName
  deriving DecidableEq, Repr

/-- The modes of a field line (R140). -/
inductive LineMode
  | input | inputFiltered | outputPushPull | outputOpen | analog
  deriving DecidableEq, Repr

/-- The polarity of a field line (R140). -/
inductive Polarity
  | high | low
  deriving DecidableEq, Repr

/-- A function together with the arm or port it serves (R151). -/
inductive Func
  | ground (a : Arm)
  | overfill (a : Arm)
  | permit (a : Arm)
  | washEnable (p : Port)
  | alarm
  | rinseProbe (p : Port)
  deriving DecidableEq, Repr

/-- The filtered level of an input line (R140). -/
inductive Level
  | active | inactive | unsettled
  deriving DecidableEq, Repr

/-- A field line: its configuration and its working state (R140). `latch` is true when ASSERTED. -/
structure Line where
  mode : LineMode
  polarity : Polarity
  depth : Nat
  func : Option Func
  level : Level
  run : Nat
  latch : Bool
  raw : Option Nat
  deriving DecidableEq, Repr

/-- What a pin is driven to (R148); `undriven` is a pin of an input or analog line. -/
inductive Drive
  | high | low | released | undriven
  deriving DecidableEq, Repr

/-- A probe's latest reading: the raw sample and the conductivity converted from it (R88). -/
structure ProbeReading where
  raw : Nat
  conductivity : Nat
  deriving DecidableEq, Repr

/-- A probe record (R88). -/
structure Probe where
  reading : Option ProbeReading
  pendingMark : Bool
  deriving DecidableEq, Repr

end Sys2Proof.Machine
end

