-- ==== Sys2Proof/Config.lean ====
section
/-! DEFINITION. What is fixed for the machine: the sizes the manual gives its tables, and the free values (constants
without a body) that stand where a record refers to something that is not there. No run reaches such a record (log entry
14), and nothing can be proved about the value of a free constant. -/

namespace Sys2Proof.Config

/-- R24: the product catalogue holds up to 128 entries. -/
def catalogueSize : Nat := 128

/-- R55: a WASH port holds at most two compartments. -/
def bayHolds : Nat := 2

/-- R83: three faults block a compartment. -/
def faultLimit : Nat := 3

/-- R81: the silence seconds at which a step stalls. -/
def silenceLimit : Nat := 60

/-- R72: the consecutive mismatches at which a step stalls. -/
def mismatchLimit : Nat := 3

/-- Free value: the minimum level after of a last product that the catalogue does not list. R25 keeps every last product
listed, so no run reads it. -/
opaque unlistedMinLevelAfter : Nat → Nat

/-- Free value: the fill percent of a product that the catalogue does not list. R25 keeps every booked product listed, so
no run reads it. -/
opaque unlistedFillPercent : Nat → Nat

/-- Free value: the current step of a plan that has no step at its current step index. A plan of a WASHING compartment
has one (R5, R10), so no run reads it. -/
opaque missingStep : Nat → Machine.WashStep

end Sys2Proof.Config
end

