-- ==== Sys2Proof/Machine/Bytes.lean ====
section
/-! DEFINITION. Numbers in frames and payloads (R173) and the two frame checks (R175). -/

namespace Sys2Proof.Machine

/-- A number as `w` bytes, high byte first (R173). -/
def beBytes : Nat → Nat → List Byte
  | 0, _ => []
  | w + 1, n => BitVec.ofNat 8 (n / 256 ^ w) :: beBytes w n

/-- The number that bytes carry, high byte first (R173). -/
def beValue (bs : List Byte) : Nat :=
  bs.foldl (fun acc b => acc * 256 + b.toNat) 0

/-- A signed number as 16-bit two's complement (R173). -/
def signedBytes (z : Int) : List Byte :=
  beBytes 2 (z % 65536).toNat

/-- The signed number that a 16-bit two's complement value stands for (R173). -/
def signedValue (n : Nat) : Int :=
  if n < 32768 then (n : Int) else (n : Int) - 65536

/-- A boolean is one byte, 0 clear and 1 set (R183, R186). -/
def boolByte (b : Bool) : Byte :=
  if b then 1 else 0

/-- `n`-fold application. -/
def iterate {α : Type} (f : α → α) : Nat → α → α
  | 0, x => x
  | n + 1, x => iterate f n (f x)

/-- One bit of the CRC-8 with generator 0x07, most significant first (R175). -/
def crc8Bit (c : BitVec 8) : BitVec 8 :=
  if c.msb then (c <<< 1) ^^^ 0x07#8 else c <<< 1

/-- Taking one byte into the CRC-8 (R175). -/
def crc8Step (c : BitVec 8) (b : Byte) : BitVec 8 :=
  iterate crc8Bit 8 (c ^^^ b)

/-- The header check: CRC-8, initial value 0, no reflection, no final inversion (R175). -/
def crc8 (bs : List Byte) : BitVec 8 :=
  bs.foldl crc8Step 0

/-- One bit of the CRC-16 with generator 0x1021, most significant first (R175). -/
def crc16Bit (c : BitVec 16) : BitVec 16 :=
  if c.msb then (c <<< 1) ^^^ 0x1021#16 else c <<< 1

/-- Taking one byte into the CRC-16 (R175). -/
def crc16Step (c : BitVec 16) (b : Byte) : BitVec 16 :=
  iterate crc16Bit 8 (c ^^^ (b.zeroExtend 16 <<< 8))

/-- The payload check: CRC-16, initial value 0xFFFF, no reflection, no final inversion (R175). -/
def crc16 (bs : List Byte) : BitVec 16 :=
  bs.foldl crc16Step 0xFFFF#16

/-- The payload check as it is sent: high byte first (R174). -/
def crc16Bytes (bs : List Byte) : List Byte :=
  beBytes 2 (crc16 bs).toNat

/-- A frame with a payload: type byte, length, header check, payload, payload check (R174). -/
def longFrame (typeByte : Byte) (payload : List Byte) : List Byte :=
  let header := typeByte :: beBytes 2 payload.length
  header ++ [crc8 header] ++ payload ++ crc16Bytes payload

/-- A frame without one: type byte, two argument bytes, header check (R174). -/
def shortFrame (typeByte b1 b2 : Byte) : List Byte :=
  [typeByte, b1, b2, crc8 [typeByte, b1, b2]]

end Sys2Proof.Machine
end

