-- ==== Sys2Proof/WellFormed.lean ====
section
/-! DEFINITION. Which commands a station can send at all: a long frame carries 1 to 240 payload bytes (R174). -/

namespace Sys2Proof

/-- R174: the payload of a long frame is 1 to 240 bytes. -/
def payloadWf (payload : List Byte) : Bool :=
  1 ≤ payload.length && payload.length ≤ 240

/-- The payload of a command that is a long-frame request; an event and a short-frame request carry none. -/
def Instr.payload? : Instr → Option (List Byte)
  | .hardwareReset => none
  | .yardClockAdvance => none
  | .silenceExpiry _ => none
  | .activeTimeExpiry _ => none
  | .releaseExpiry _ => none
  | .inputSample _ _ => none
  | .analogConversion _ _ => none
  | .byteReceived _ _ => none
  | .breakReceived _ => none
  | .gap _ => none
  | .discardEnd _ => none
  | .replySent _ => none
  | .readStatus _ _ _ => none
  | .readLines _ _ _ => none
  | .setReplyLimit _ _ _ => none
  | .readCompartment _ payload => some payload
  | .readRecords _ payload => some payload
  | .readQueue _ _ _ => none
  | .setTime _ payload => some payload
  | .defineProduct _ payload => some payload
  | .deleteProduct _ _ _ => none
  | .setMatrixRow _ payload => some payload
  | .defineProgram _ payload => some payload
  | .setClassLimit _ payload => some payload
  | .setPortRole _ payload => some payload
  | .setAccessMap _ payload => some payload
  | .configureLine _ payload => some payload
  | .lockLines _ _ _ => none
  | .setLine _ _ _ => none
  | .setProbeCalibration _ payload => some payload
  | .mapArm _ _ _ => none
  | .clearYard _ _ _ => none
  | .registerTanker _ payload => some payload
  | .book _ payload => some payload
  | .revoke _ payload => some payload
  | .unblock _ payload => some payload
  | .ackIncident _ payload => some payload
  | .departTanker _ _ _ => none
  | .nextWork _ _ _ => none
  | .stepStart _ payload => some payload
  | .washSample _ payload => some payload
  | .giveBack _ payload => some payload
  | .undock _ _ _ => none
  | .inspectBegin _ payload => some payload
  | .inspectResult _ payload => some payload
  | .inspectCancel _ payload => some payload
  | .fillBegin _ payload => some payload
  | .fillVolume _ payload => some payload
  | .fillResume _ payload => some payload
  | .fillEnd _ payload => some payload

/-- A command is well formed when the payload it carries, if any, fits a long frame. -/
def Instr.wf (i : Instr) : Bool :=
  i.payload?.all payloadWf

end Sys2Proof
end

