-- ==== Sys2Proof/Decode.lean ====
section
/-! DEFINITION. The request codes and forms of R183, the frame a request command stands for (R174), and the word decoder
the host asks for: spec/opcode_table.json gives no row any bits, so no word spells a command. -/

namespace Sys2Proof

/-- All requests, in the order of R183. -/
def ReqName.all : List ReqName :=
  [.readStatus, .readLines, .setReplyLimit, .readCompartment, .readRecords, .readQueue,
   .setTime, .defineProduct, .deleteProduct, .setMatrixRow, .defineProgram, .setClassLimit,
   .setPortRole, .setAccessMap, .configureLine, .lockLines, .setLine, .setProbeCalibration,
   .mapArm, .clearYard, .registerTanker, .book, .revoke, .unblock,
   .ackIncident, .departTanker, .nextWork, .stepStart, .washSample, .giveBack,
   .undock, .inspectBegin, .inspectResult, .inspectCancel, .fillBegin, .fillVolume,
   .fillResume, .fillEnd]

/-- The code of a request (R183). -/
def ReqName.code : ReqName → Nat
  | .readStatus => 0x01
  | .readLines => 0x02
  | .setReplyLimit => 0x03
  | .readCompartment => 0x04
  | .readRecords => 0x05
  | .readQueue => 0x06
  | .setTime => 0x10
  | .defineProduct => 0x11
  | .deleteProduct => 0x12
  | .setMatrixRow => 0x13
  | .defineProgram => 0x14
  | .setClassLimit => 0x15
  | .setPortRole => 0x16
  | .setAccessMap => 0x17
  | .configureLine => 0x18
  | .lockLines => 0x19
  | .setLine => 0x1A
  | .setProbeCalibration => 0x1B
  | .mapArm => 0x1C
  | .clearYard => 0x1D
  | .registerTanker => 0x20
  | .book => 0x21
  | .revoke => 0x22
  | .unblock => 0x23
  | .ackIncident => 0x24
  | .departTanker => 0x25
  | .nextWork => 0x30
  | .stepStart => 0x31
  | .washSample => 0x32
  | .giveBack => 0x33
  | .undock => 0x34
  | .inspectBegin => 0x40
  | .inspectResult => 0x41
  | .inspectCancel => 0x42
  | .fillBegin => 0x50
  | .fillVolume => 0x51
  | .fillResume => 0x52
  | .fillEnd => 0x53

/-- Whether R183 gives a request the short form; every other request is sent as a long frame. -/
def ReqName.isShort : ReqName → Bool
  | .readStatus => true
  | .readLines => true
  | .setReplyLimit => true
  | .readCompartment => false
  | .readRecords => false
  | .readQueue => true
  | .setTime => false
  | .defineProduct => false
  | .deleteProduct => true
  | .setMatrixRow => false
  | .defineProgram => false
  | .setClassLimit => false
  | .setPortRole => false
  | .setAccessMap => false
  | .configureLine => false
  | .lockLines => true
  | .setLine => true
  | .setProbeCalibration => false
  | .mapArm => true
  | .clearYard => true
  | .registerTanker => false
  | .book => false
  | .revoke => false
  | .unblock => false
  | .ackIncident => false
  | .departTanker => true
  | .nextWork => true
  | .stepStart => false
  | .washSample => false
  | .giveBack => false
  | .undock => true
  | .inspectBegin => false
  | .inspectResult => false
  | .inspectCancel => false
  | .fillBegin => false
  | .fillVolume => false
  | .fillResume => false
  | .fillEnd => false

/-- The request that a code names, if any (R178). -/
def ReqName.ofCode (n : Nat) : Option ReqName :=
  ReqName.all.find? fun r => r.code == n

/-- The request a command is: its name, its port, and its argument bytes (the two of a short frame, or the payload).
An event of the clock, the lines or the links is no request. -/
def Instr.request? : Instr → Option (ReqName × Port × List Byte)
  | .hardwareReset => none
  | .yardClockAdvance => none
  | .silenceExpiry _ => none
  | .activeTimeExpiry _ => none
  | .releaseExpiry _ => none
  | .inputSample _ _ => none
  | .analogConversion _ _ => none
  | .byteReceived _ _ => none
  | .breakReceived _ => none
  | .gap _ => none
  | .discardEnd _ => none
  | .replySent _ => none
  | .readStatus p b1 b2 => some (.readStatus, p, [b1, b2])
  | .readLines p b1 b2 => some (.readLines, p, [b1, b2])
  | .setReplyLimit p b1 b2 => some (.setReplyLimit, p, [b1, b2])
  | .readCompartment p payload => some (.readCompartment, p, payload)
  | .readRecords p payload => some (.readRecords, p, payload)
  | .readQueue p b1 b2 => some (.readQueue, p, [b1, b2])
  | .setTime p payload => some (.setTime, p, payload)
  | .defineProduct p payload => some (.defineProduct, p, payload)
  | .deleteProduct p b1 b2 => some (.deleteProduct, p, [b1, b2])
  | .setMatrixRow p payload => some (.setMatrixRow, p, payload)
  | .defineProgram p payload => some (.defineProgram, p, payload)
  | .setClassLimit p payload => some (.setClassLimit, p, payload)
  | .setPortRole p payload => some (.setPortRole, p, payload)
  | .setAccessMap p payload => some (.setAccessMap, p, payload)
  | .configureLine p payload => some (.configureLine, p, payload)
  | .lockLines p b1 b2 => some (.lockLines, p, [b1, b2])
  | .setLine p b1 b2 => some (.setLine, p, [b1, b2])
  | .setProbeCalibration p payload => some (.setProbeCalibration, p, payload)
  | .mapArm p b1 b2 => some (.mapArm, p, [b1, b2])
  | .clearYard p b1 b2 => some (.clearYard, p, [b1, b2])
  | .registerTanker p payload => some (.registerTanker, p, payload)
  | .book p payload => some (.book, p, payload)
  | .revoke p payload => some (.revoke, p, payload)
  | .unblock p payload => some (.unblock, p, payload)
  | .ackIncident p payload => some (.ackIncident, p, payload)
  | .departTanker p b1 b2 => some (.departTanker, p, [b1, b2])
  | .nextWork p b1 b2 => some (.nextWork, p, [b1, b2])
  | .stepStart p payload => some (.stepStart, p, payload)
  | .washSample p payload => some (.washSample, p, payload)
  | .giveBack p payload => some (.giveBack, p, payload)
  | .undock p b1 b2 => some (.undock, p, [b1, b2])
  | .inspectBegin p payload => some (.inspectBegin, p, payload)
  | .inspectResult p payload => some (.inspectResult, p, payload)
  | .inspectCancel p payload => some (.inspectCancel, p, payload)
  | .fillBegin p payload => some (.fillBegin, p, payload)
  | .fillVolume p payload => some (.fillVolume, p, payload)
  | .fillResume p payload => some (.fillResume, p, payload)
  | .fillEnd p payload => some (.fillEnd, p, payload)

/-- The frame a station sends for a request with these argument bytes (R174, R183): a short frame with the first two, or
a long frame with them as payload. -/
def requestFrame (r : ReqName) (args : List Byte) : List Byte :=
  if r.isShort then
    Machine.shortFrame (BitVec.ofNat 8 r.code) (args.getD 0 0) (args.getD 1 0)
  else
    Machine.longFrame (BitVec.ofNat 8 r.code ||| 0x80#8) args

/-- The frame a request command stands for; an event has none. -/
def Instr.frame (i : Instr) : List Byte :=
  match i.request? with
  | some (r, _, args) => requestFrame r args
  | none => []

/-- The command a word of the opcode table spells. The table gives no row any bits, so there is none (log entry 5). -/
def decodeTableWord (_nbits _w : Nat) : Option Instr :=
  none

end Sys2Proof
end

