-- ==== Sys2Proof/Machine/ResetValues.lean ====
section
/-! DEFINITION. The values the records of the part take after a hardware reset, each with the rule that states it. -/

namespace Sys2Proof.Machine

/-- The empty capability set (R158). -/
def resetCaps : Caps := ⟨false, false, false⟩

/-- No link flag raised (R173). -/
def resetFlags : LinkFlags := ⟨false, false, false, false, false, false, false⟩

/-- R173, R171, R158: IDLE, no flags, reply limit 128, no capabilities, an empty access map. -/
def resetPort (role : Role) : PortRec :=
  { rx := .idle, flags := resetFlags, limit := 128, role := role, caps := resetCaps, denied := [] }

/-- R158: port A is the office at all times; ports B to F have role NONE. -/
def resetPorts : PerPort PortRec :=
  { A := resetPort .office, B := resetPort .none, C := resetPort .none,
    D := resetPort .none, E := resetPort .none, F := resetPort .none }

/-- R142: INPUT, HIGH, depth 0, no function, latch DEASSERTED, UNSETTLED. DESIGN CHOICE, log entry 13: the run count of
a line that is not INPUT_FILTERED is kept at 0 and the raw value of a line that is not ANALOG absent. -/
def resetLine : Line :=
  { mode := .input, polarity := .high, depth := 0, func := none, level := .unsettled, run := 0,
    latch := false, raw := none }

/-- R142. -/
def resetLines : Vector Line 24 := Vector.replicate 24 resetLine

/-- R28: all 256 levels are 6. -/
def resetMatrix : Vector (Vector Nat 16) 16 := Vector.replicate 16 (Vector.replicate 16 6)

/-- R30: every class has 100 µS/cm and 12 hours. -/
def resetLimits : Vector ClassLimit 16 := Vector.replicate 16 { conductivity := 100, validityHours := 12 }

/-- R32: all six programs are undefined, that is, hold no steps. -/
def resetPrograms : Vector (List WashStep) 6 := Vector.replicate 6 []

/-- R88: no probe record. -/
def resetProbes : PerPort (Option Probe) := ⟨none, none, none, none, none, none⟩

/-- R129: no arm is mapped. -/
def resetArmMap : Vector (Option Port) 4 := Vector.replicate 4 none

/-- R23: all 32 tanker slots are free. -/
def resetTankers : Vector (Option Tanker) 32 := Vector.replicate 32 none

/-- R23: all 192 compartment slots are free. -/
def resetComps : Vector (Option Comp) 192 := Vector.replicate 192 none

end Sys2Proof.Machine
end

