-- ==== Sys2Proof/Machine/State.lean ====
section
/-! DEFINITION. The state of the TW-6 as plain data, the reasons a step could stop, and the state after reset. -/

namespace Sys2Proof.Machine

/-- The reasons the machine could stop with a fault. There is none: every request that may not be carried out is
answered with a refusal in its reply (R163, R185), and every fault of a line is a link flag (R181). -/
inductive Fault
  deriving DecidableEq, Repr

/-- The reasons the model could refuse a command. -/
inductive Refusal
  /-- A command that has no meaning yet. Raised only in exec's arms; safe, since the model then says nothing. -/
  | notModelled (mnemonic : String)
  deriving DecidableEq, Repr

/-- Everything the manual gives the TW-6 (INVENTORY.md, State). -/
structure State where
  /-- commands that wait, first in first out (the model's own) -/
  pending : List Instr
  /-- the yard clock (R130) -/
  clock : ClockValue
  /-- the clock value the latest advance produced (the model's own, for R131) -/
  lastAdvance : ClockValue
  /-- the tanker table (R1) -/
  tankers : Vector (Option Tanker) 32
  /-- the compartment table (R2, R3) -/
  comps : Vector (Option Comp) 192
  /-- the wash queue, head first (R47) -/
  queue : List Entry
  /-- the product catalogue, kept by rising code (R24) -/
  catalogue : List Product
  /-- the class matrix: row last class, column target class (R28) -/
  matrix : Vector (Vector Nat 16) 16
  /-- the class limit table (R30) -/
  limits : Vector ClassLimit 16
  /-- the wash programs of levels 1 to 6 (R32) -/
  programs : Vector (List WashStep) 6
  /-- the station ports with their roles (R158, R173) -/
  ports : PerPort PortRec
  /-- the field lines (R140) -/
  lines : Vector Line 24
  /-- the line lock (R140, R155) -/
  lock : Bool
  /-- the mapped port of each arm (R107) -/
  armMap : Vector (Option Port) 4
  /-- the probe calibration: scale (R88) -/
  scale : Nat
  /-- the probe calibration: offset (R88) -/
  offset : Int
  /-- the probe record of each port (R88) -/
  probes : PerPort (Option Probe)
  deriving DecidableEq, Repr

/-- The part right after a hardware reset (R23, R51, R129, R130, R142 and the rules cited in ResetValues.lean). -/
def State.reset : State where
  pending := []
  clock := 0
  lastAdvance := 0
  tankers := resetTankers
  comps := resetComps
  queue := []
  catalogue := []
  matrix := resetMatrix
  limits := resetLimits
  programs := resetPrograms
  ports := resetPorts
  lines := resetLines
  lock := false
  armMap := resetArmMap
  scale := 64
  offset := 0
  probes := resetProbes

end Sys2Proof.Machine
end

