-- ==== Sys2Proof/Machine/Codes.lean ====
section
/-! DEFINITION. The code numbers by which requests and replies name things (R11, R133, R140, R151, R158, R173, R183,
R185, R186). -/

namespace Sys2Proof.Machine

/-- The letter code of a port, 0x41 to 0x46 (R173). -/
def portLetter : Port → Nat
  | .A => 0x41
  | .B => 0x42
  | .C => 0x43
  | .D => 0x44
  | .E => 0x45
  | .F => 0x46

/-- A port reported in a reply: its letter code, or 0 for none (R173). -/
def portCode : Option Port → Nat
  | some p => portLetter p
  | none => 0

/-- The port of B to F that a letter code names (R108, R152, R160, R162). -/
def stationPort (n : Nat) : Option Port :=
  match n with
  | 0x42 => some .B
  | 0x43 => some .C
  | 0x44 => some .D
  | 0x45 => some .E
  | 0x46 => some .F
  | _ => none

/-- The ports B to F, which hold roles, capabilities, access maps and probe records (R158). -/
def stationPorts : List Port := [.B, .C, .D, .E, .F]

/-- R158. -/
def roleCode : Role → Nat
  | .none => 0
  | .office => 1
  | .wash => 2
  | .inspect => 3
  | .fill => 4

/-- The role a code of SET PORT ROLE names; OFFICE is out of range there (R160). -/
def roleOfCode (n : Nat) : Option Role :=
  match n with
  | 0 => some .none
  | 2 => some .wash
  | 3 => some .inspect
  | 4 => some .fill
  | _ => none

/-- R183: bit 0 STEAM, bit 1 SOLVENT, bit 2 FOOD. The bits it does not name are 0 in a reply: DESIGN CHOICE, log entry 26. -/
def capsCode (c : Caps) : Nat :=
  c.steam.toNat + 2 * c.solvent.toNat + 4 * c.food.toNat

/-- The capability set a code names (R183). -/
def capsOfCode (n : Nat) : Caps :=
  { steam := n.testBit 0, solvent := n.testBit 1, food := n.testBit 2 }

/-- R183. -/
def priorityCode : Priority → Nat
  | .urgent => 1
  | .normal => 2

/-- The priority a code in range names (R183). -/
def priorityOfCode (n : Nat) : Priority :=
  if n = 1 then .urgent else .normal

/-- R183. -/
def mediumCode : Medium → Nat
  | .rinse => 1
  | .detergent => 2
  | .caustic => 3
  | .steam => 4
  | .solvent => 5
  | .air => 6

/-- The medium a code in range, 1 to 6, names (R183). -/
def mediumOfCode (n : Nat) : Medium :=
  match n with
  | 1 => .rinse
  | 2 => .detergent
  | 3 => .caustic
  | 4 => .steam
  | 5 => .solvent
  | _ => .air

/-- R183. -/
def sourceCode : Source → Nat
  | .reported => 1
  | .probe => 2

/-- The code of a compartment's state (R11). -/
def stateCode : CompState → Nat
  | .arrived => 1
  | .queued .. => 2
  | .washing .. => 3
  | .washed .. => 4
  | .inspecting .. => 5
  | .released .. => 6
  | .filling .. => 7
  | .loaded .. => 8
  | .blockedForbidden .. => 9
  | .blockedFaults .. => 9

/-- The bits of a halt set: bit 0 LIMIT, bit 1 GROUND, bit 2 OVERFILL (R186). -/
def haltBits (h : HaltSet) : Nat :=
  h.limit.toNat + 2 * h.ground.toNat + 4 * h.overfill.toNat

/-- The phase byte of a wash phase (R186). -/
def washPhaseCode : WashPhase → Nat
  | .between => 1
  | .active => 2
  | .stalled .silence => 3
  | .stalled .overrun => 4
  | .stalled .medium => 5

/-- The phase byte of a fill: 0x10 FLOWING, or 0x20 plus the halt set (R186). -/
def fillPhaseCode (h : HaltSet) : Nat :=
  if haltBits h = 0 then 0x10 else 0x20 + haltBits h

/-- The phase byte of a record (R186): 0 when no phase or cause is present. -/
def phaseCode : CompState → Nat
  | .washing _ _ _ ph => washPhaseCode ph
  | .filling _ _ _ _ _ h => fillPhaseCode h
  | .blockedForbidden _ => 0x31
  | .blockedFaults _ _ => 0x32
  | .arrived => 0
  | .queued .. => 0
  | .washed .. => 0
  | .inspecting .. => 0
  | .released .. => 0
  | .loaded _ => 0

/-- R133. Code 0 stands for an empty slot. -/
def incidentCode : IncidentKind → Nat
  | .groundLost => 1
  | .overfillWet => 2
  | .overLimit => 3
  | .tagMismatch => 4
  | .releaseExpired => 5
  | .blocked => 6
  | .fillRevoked => 7

/-- R140. -/
def lineModeCode : LineMode → Nat
  | .input => 1
  | .inputFiltered => 2
  | .outputPushPull => 3
  | .outputOpen => 4
  | .analog => 5

/-- The line mode a code in range, 1 to 5, names (R140). -/
def lineModeOfCode (n : Nat) : LineMode :=
  match n with
  | 1 => .input
  | 2 => .inputFiltered
  | 3 => .outputPushPull
  | 4 => .outputOpen
  | _ => .analog

/-- R140: HIGH 0, LOW 1. -/
def polarityCode : Polarity → Nat
  | .high => 0
  | .low => 1

/-- The polarity a code in range names (R140). -/
def polarityOfCode (n : Nat) : Polarity :=
  if n = 0 then .high else .low

/-- The number of an arm, 1 to 4 (R107). -/
def armNumber (a : Arm) : Nat := a.val + 1

/-- The arm a number in range, 1 to 4, names (R107). -/
def armOfNumber (n : Nat) : Arm := Fin.ofNat 4 (n - 1)

/-- The function code of a function instance (R151). -/
def funcCode : Func → Nat
  | .ground _ => 1
  | .overfill _ => 2
  | .permit _ => 3
  | .washEnable _ => 4
  | .alarm => 5
  | .rinseProbe _ => 6

/-- The instance of a function instance in the form CONFIGURE LINE carries it (R152): the arm, the port's letter code, or
0 for ALARM. -/
def funcInstance : Func → Nat
  | .ground a => armNumber a
  | .overfill a => armNumber a
  | .permit a => armNumber a
  | .washEnable p => portLetter p
  | .alarm => 0
  | .rinseProbe p => portLetter p

/-- The instance of a function instance in the form READ LINES carries it (R186): the arm, the port's position in the
alphabet, or 0 for ALARM. -/
def funcNibble : Func → Nat
  | .ground a => armNumber a
  | .overfill a => armNumber a
  | .permit a => armNumber a
  | .washEnable p => portLetter p - 0x40
  | .alarm => 0
  | .rinseProbe p => portLetter p - 0x40

/-- The function instance that a function code and an instance name (R151, R152); code 0 names none. -/
def funcOfCode (code inst : Nat) : Option Func :=
  match code with
  | 1 => some (.ground (armOfNumber inst))
  | 2 => some (.overfill (armOfNumber inst))
  | 3 => some (.permit (armOfNumber inst))
  | 4 => (stationPort inst).map .washEnable
  | 5 => some .alarm
  | 6 => (stationPort inst).map .rinseProbe
  | _ => none

/-- Whether an instance suits a function code (R152). -/
def instanceSuits (code inst : Nat) : Bool :=
  match code with
  | 0 => inst == 0
  | 1 => 1 ≤ inst && inst ≤ 4
  | 2 => 1 ≤ inst && inst ≤ 4
  | 3 => 1 ≤ inst && inst ≤ 4
  | 4 => (stationPort inst).isSome
  | 5 => inst == 0
  | 6 => (stationPort inst).isSome
  | _ => false

/-- The result codes of a reply (R185). -/
inductive Result
  | ok | done | limit | empty
  | link | role | denied | range | noTanker | noCompartment | held | notHolder | state | full
  | unknownProduct | noProgram | referenced | sequence | settling | notEquipped | busy
  | productMismatch | tagMismatch | unbonded | overfill | locked | inUse | mode | duplicate | limitRefused
  deriving DecidableEq, Repr

/-- R185. -/
def resultCode : Result → Nat
  | .ok => 0x00
  | .done => 0x01
  | .limit => 0x02
  | .empty => 0x03
  | .link => 0x40
  | .role => 0x41
  | .denied => 0x42
  | .range => 0x43
  | .noTanker => 0x44
  | .noCompartment => 0x45
  | .held => 0x46
  | .notHolder => 0x47
  | .state => 0x48
  | .full => 0x49
  | .unknownProduct => 0x4A
  | .noProgram => 0x4B
  | .referenced => 0x4C
  | .sequence => 0x4D
  | .settling => 0x4E
  | .notEquipped => 0x4F
  | .busy => 0x50
  | .productMismatch => 0x51
  | .tagMismatch => 0x52
  | .unbonded => 0x53
  | .overfill => 0x54
  | .locked => 0x55
  | .inUse => 0x56
  | .mode => 0x57
  | .duplicate => 0x58
  | .limitRefused => 0x59

/-- A refusal is a reply whose result code says that the request was not carried out (R185). -/
def Result.isRefusal (r : Result) : Bool := 0x41 ≤ resultCode r

end Sys2Proof.Machine
end

