-- ==== Sys2Proof/Machine/Tables.lean ====
section
/-! DEFINITION. Reading and writing the tables of the state: one entry for a port, a tanker slot, a compartment slot, a
field line. Every read and write of a table goes through these. -/

namespace Sys2Proof.Machine

/-- The entry of a port. -/
def PerPort.get {α : Type} (v : PerPort α) : Port → α
  | .A => v.A
  | .B => v.B
  | .C => v.C
  | .D => v.D
  | .E => v.E
  | .F => v.F

/-- The table with the entry of one port replaced. -/
def PerPort.set {α : Type} (v : PerPort α) (p : Port) (x : α) : PerPort α :=
  match p with
  | .A => { v with A := x }
  | .B => { v with B := x }
  | .C => { v with C := x }
  | .D => { v with D := x }
  | .E => { v with E := x }
  | .F => { v with F := x }

/-- The table with every entry changed. -/
def PerPort.map {α β : Type} (f : α → β) (v : PerPort α) : PerPort β :=
  { A := f v.A, B := f v.B, C := f v.C, D := f v.D, E := f v.E, F := f v.F }

/-- The port record of a port. -/
def State.port (s : State) (p : Port) : PortRec := s.ports.get p

/-- The state with one port record replaced. -/
def State.setPort (s : State) (p : Port) (r : PortRec) : State :=
  { s with ports := s.ports.set p r }

/-- The role of a port. Port A has role OFFICE at all times (R158), whatever its record holds. -/
def State.role (s : State) (p : Port) : Role :=
  if p = .A then .office else (s.port p).role

/-- The capability set of a port; port A has none, and a port whose role is not WASH has the empty set (R158). -/
def State.capsOf (s : State) (p : Port) : Caps :=
  if s.role p = .wash then (s.port p).caps else ⟨false, false, false⟩

/-- The tanker record in a tanker slot (R1). -/
def State.tankerAt (s : State) (t : TankerSlot) : Option Tanker := s.tankers[t]

/-- The state with one tanker slot written. -/
def State.setTanker (s : State) (t : TankerSlot) (k : Option Tanker) : State :=
  { s with tankers := s.tankers.set t k }

/-- The compartment record in a compartment slot (R2). -/
def State.compAt (s : State) (k : Slot) : Option Comp := s.comps[k]

/-- The state with the record of one compartment slot written. -/
def State.setComp (s : State) (k : Slot) (c : Comp) : State :=
  { s with comps := s.comps.set k (some c) }

/-- The state with one compartment slot freed. -/
def State.freeComp (s : State) (k : Slot) : State :=
  { s with comps := s.comps.set k none }

/-- A field line (R140). -/
def State.line (s : State) (l : LineNo) : Line := s.lines[l]

/-- The state with one field line written. -/
def State.setLine (s : State) (l : LineNo) (x : Line) : State :=
  { s with lines := s.lines.set l x }

/-- The probe record of a port, if it has one (R88). -/
def State.probe (s : State) (p : Port) : Option Probe := s.probes.get p

/-- The state with the probe record of a port written or removed. -/
def State.setProbe (s : State) (p : Port) (x : Option Probe) : State :=
  { s with probes := s.probes.set p x }

/-- The compartment slot of a tanker's compartment: s × 6 + (i − 1) (R2). -/
def compSlot (t : TankerSlot) (index : Nat) : Slot := Fin.ofNat 192 (t.val * 6 + (index - 1))

/-- The records of all occupied compartment slots, in slot order. -/
def State.records (s : State) : List Comp := s.comps.toList.filterMap id

/-- The level of the class matrix at a row and a column (R28). -/
def State.matrixLevel (s : State) (row col : ClassNo) : Nat := s.matrix[row][col]

/-- The class limit of a class (R30). -/
def State.classLimit (s : State) (c : ClassNo) : ClassLimit := s.limits[c]

/-- The program of a level from 1 to 6 (R32). -/
def State.program (s : State) (level : Nat) : List WashStep := s.programs[Fin.ofNat 6 (level - 1)]

/-- The catalogue entry of a code (R24). Code 0 has no entry. -/
def State.product? (s : State) (code : Nat) : Option Product :=
  s.catalogue.find? fun e => e.code == code

/-- The mapped port of an arm (R107). -/
def State.armPort (s : State) (a : Arm) : Option Port := s.armMap[a]

end Sys2Proof.Machine
end

