-- ==== Sys2Proof/Machine/Flags.lean ====
section
/-! DEFINITION. The link flags of a port, the attention condition, and the flag byte of a reply (R138, R181). -/

namespace Sys2Proof.Machine

/-- Every link flag clear (R181: building a reply clears them). -/
def noFlags : LinkFlags := ⟨false, false, false, false, false, false, false⟩

def LinkFlags.raiseHeader (f : LinkFlags) : LinkFlags := { f with header := true }
def LinkFlags.raisePayload (f : LinkFlags) : LinkFlags := { f with payload := true }
def LinkFlags.raiseGap (f : LinkFlags) : LinkFlags := { f with gap := true }
def LinkFlags.raiseBreak (f : LinkFlags) : LinkFlags := { f with brk := true }
def LinkFlags.raiseLength (f : LinkFlags) : LinkFlags := { f with length := true }
def LinkFlags.raiseCode (f : LinkFlags) : LinkFlags := { f with code := true }
def LinkFlags.raiseOverrun (f : LinkFlags) : LinkFlags := { f with overrun := true }

/-- Bits 0 to 6 of the flag byte (R181). -/
def LinkFlags.bits (f : LinkFlags) : Nat :=
  f.header.toNat + 2 * f.payload.toNat + 4 * f.gap.toNat + 8 * f.brk.toNat + 16 * f.length.toNat
    + 32 * f.code.toNat + 64 * f.overrun.toNat

/-- The count of full incident slots (R138). -/
def State.fullSlots (s : State) : Nat :=
  s.records.countP fun c => c.incident.isSome

/-- The attention condition: at least one incident slot is full (R138). -/
def State.attention (s : State) : Bool :=
  s.records.any fun c => c.incident.isSome

/-- The flag byte of a reply of a port: its link flags, and ATTENTION in bit 7 (R181). -/
def State.flagByte (s : State) (p : Port) : Byte :=
  BitVec.ofNat 8 ((s.port p).flags.bits + 128 * s.attention.toNat)

end Sys2Proof.Machine
end

