-- ==== Sys2Proof/Machine/Operands.lean ====
section
/-! DEFINITION. The arguments a request carries (R183) and check 3 of the chain over them (R165): each argument in turn
is taken from the payload and held against its range, and the first that fails gives the detail of RANGE. -/

namespace Sys2Proof.Machine

/-- An argument of a request: its size in bytes (R183), and its range, which may depend on the arguments before it. -/
structure Field where
  width : Nat
  legal : List Nat → Nat → Bool

/-- An argument whose range is `lo` to `hi`. -/
def field (width lo hi : Nat) : Field :=
  { width := width, legal := fun _ v => lo ≤ v && v ≤ hi }

/-- An argument every value of which is in range. -/
def anyField (width : Nat) : Field :=
  { width := width, legal := fun _ _ => true }

/-- Takes arguments from the bytes in order, after the arguments `got` already taken. `.error n`: argument n is the first
that is not carried whole or is out of range (R165). -/
def takeFields : List Field → List Nat → List Byte → Except Nat (List Nat × List Byte)
  | [], got, bs => .ok (got, bs)
  | f :: fs, got, bs =>
    if bs.length < f.width then .error (got.length + 1)
    else if f.legal got (beValue (bs.take f.width)) then
      takeFields fs (got ++ [beValue (bs.take f.width)]) (bs.drop f.width)
    else .error (got.length + 1)

/-- Check 3 of a long-frame request: exactly these arguments. `tooLong` is the detail for a payload that goes on after the
last argument. -/
def checkPayload (fs : List Field) (tooLong : Nat) (payload : List Byte) : Except Nat (List Nat) :=
  match takeFields fs [] payload with
  | .error d => .error d
  | .ok (vs, []) => .ok vs
  | .ok (_, _ :: _) => .error tooLong

/-- Check 3 of a long-frame request whose rule names no detail for a payload that is too long: the number of the last
argument plus 1 (R165). -/
def checkLong (fs : List Field) (payload : List Byte) : Except Nat (List Nat) :=
  checkPayload fs (fs.length + 1) payload

/-- Check 3 of a short-frame request: argument bytes it does not use are not read (R165). -/
def checkShort (fs : List Field) (b1 b2 : Byte) : Except Nat (List Nat) :=
  match takeFields fs [] [b1, b2] with
  | .error d => .error d
  | .ok (vs, _) => .ok vs

/-- Argument n of a request, counted from 1 as its rule counts. -/
def arg (vs : List Nat) (n : Nat) : Nat := vs.getD (n - 1) 0

/-- The bytes of arguments of the given sizes, as a station sends them (R183). -/
def argBytes : List (Nat × Nat) → List Byte
  | [] => []
  | (w, v) :: rest => beBytes w v ++ argBytes rest

/-- A compartment address: the tag in 2 bytes, the index in 1; arguments 1 and 2 (R183, R165). -/
def addressFields : List Field := [field 2 1 65535, field 1 1 6]

/-- A port given as the letter code of one of ports B to F (R160, R162). -/
def stationPortField : Field :=
  { width := 1, legal := fun _ v => (stationPort v).isSome }

/-- A closure tag number, 1 to 999999, in 3 bytes (R92, R110). -/
def closureTagField : Field := field 3 1 999999

/-- READ RECORDS (R169): cursor, count, direction. -/
def readRecordsFields : List Field := [field 1 0 191, field 1 1 192, field 1 0 1]

/-- READ QUEUE (R63): start position. -/
def readQueueFields : List Field := [field 2 1 192]

/-- SET TIME (R132): a clock value in four bytes; every value is in range. -/
def setTimeFields : List Field := [anyField 4]

/-- DEFINE PRODUCT (R26, R24): code, class, FOOD flag, minimum level after, fill percent. -/
def defineProductFields : List Field :=
  [field 2 1 9999, field 1 1 15, field 1 0 1, field 1 0 6, field 1 80 98]

/-- DELETE PRODUCT (R27): code. -/
def deleteProductFields : List Field := [field 2 1 9999]

/-- SET MATRIX ROW (R29): row, then sixteen levels. -/
def setMatrixRowFields : List Field := field 1 0 15 :: List.replicate 16 (field 1 0 7)

/-- SET CLASS LIMIT (R31): class, conductivity limit, validity in hours. -/
def setClassLimitFields : List Field := [field 1 0 15, field 2 1 20000, field 1 1 48]

/-- The five fields of one step of DEFINE PROGRAM (R32, R33). -/
def stepFields : List Field :=
  [field 1 1 6, field 2 0 1400, field 2 0 600, field 2 1 60000, field 2 60 7200]

/-- The step fields of `n` steps in running order (R33). -/
def stepsFields : Nat → List Field
  | 0 => []
  | n + 1 => stepFields ++ stepsFields n

/-- DEFINE PROGRAM (R33): level; step count, out of range also where the payload length does not suit it; then the step
fields. `len` is the payload length. -/
def defineProgramFields (len count : Nat) : List Field :=
  field 1 1 6 :: { width := 1, legal := fun _ n => 1 ≤ n && n ≤ 6 && len == 2 + 9 * n } :: stepsFields count

/-- SET PORT ROLE (R160): port, role, capability set. The set is bits 0 to 2, and empty unless the role is WASH. -/
def setPortRoleFields : List Field :=
  [stationPortField,
   { width := 1, legal := fun _ v => (roleOfCode v).isSome },
   { width := 1, legal := fun got v => v ≤ 7 && (v == 0 || roleOfCode (arg got 2) == some .wash) }]

/-- SET ACCESS MAP (R162): port, and a map of sixteen bytes. -/
def setAccessMapFields : List Field := [stationPortField, anyField 16]

/-- CONFIGURE LINE (R152): line, mode, polarity, depth, function, instance. -/
def configureLineFields : List Field :=
  [field 1 0 23, field 1 1 5, field 1 0 1,
   { width := 1, legal := fun _ v => v == 0 || v == 2 || v == 4 || v == 8 },
   field 1 0 6,
   { width := 1, legal := fun got v => instanceSuits (arg got 5) v }]

/-- SET LINE (R150): line, level. -/
def setLineFields : List Field := [field 1 0 23, field 1 0 1]

/-- SET PROBE CALIBRATION (R157): scale, and a signed offset. -/
def setProbeCalibrationFields : List Field :=
  [field 2 1 1023,
   { width := 2, legal := fun _ v => -2000 ≤ signedValue v && signedValue v ≤ 2000 }]

/-- MAP ARM (R108): arm, and 0 or a port whose role is FILL when the request is taken. -/
def mapArmFields (s : State) : List Field :=
  [field 1 1 4,
   { width := 1, legal := fun _ v => v == 0 || (stationPort v).any fun p => s.role p == .fill }]

/-- BOOK (R38): address, target code, priority. -/
def bookFields : List Field := addressFields ++ [field 2 0 9999, field 1 1 2]

/-- DEPART TANKER (R16): a tag. Its rule gives no range; a tag no tanker holds is refused at check 4 (log entry 17). -/
def departTankerFields : List Field := [anyField 2]

/-- STEP START (R66): address, step index. -/
def stepStartFields : List Field := addressFields ++ [field 1 1 6]

/-- WASH SAMPLE (R69): address, interval, temperature, flow, medium. -/
def washSampleFields : List Field :=
  addressFields ++ [anyField 1, anyField 2, anyField 2, field 1 1 6]

/-- INSPECT RESULT (R92): address, verdict, reported conductivity, closure tag number. -/
def inspectResultFields : List Field :=
  addressFields ++ [field 1 1 2, anyField 2, closureTagField]

/-- FILL BEGIN (R110): address, arm, product code, closure tag number. -/
def fillBeginFields : List Field :=
  addressFields ++ [field 1 1 4, field 2 1 9999, closureTagField]

/-- FILL VOLUME and FILL END (R118, R123): address, a four-byte count. -/
def fillCountFields : List Field := addressFields ++ [anyField 4]

end Sys2Proof.Machine
end

