-- ==== Sys2Proof/Machine/Ops.lean ====
section
/-! DEFINITION. The operations the commands share: the parts of a compartment record, finding a compartment, the wash
queue, the demands and the latches that follow them, capturing an incident, the check chain, and building a reply. -/

namespace Sys2Proof.Machine

/-! ### The parts of a compartment record (R10) -/

/-- The holder (R9, R12). -/
def CompState.holder : CompState → Option Port
  | .washing _ _ h _ => some h
  | .inspecting _ _ h => some h
  | .filling _ _ h _ _ _ => some h
  | .arrived => none
  | .queued .. => none
  | .washed .. => none
  | .released .. => none
  | .loaded _ => none
  | .blockedForbidden _ => none
  | .blockedFaults .. => none

/-- The booking (R5). -/
def CompState.booking : CompState → Option Booking
  | .queued b _ => some b
  | .washing b _ _ _ => some b
  | .washed b _ => some b
  | .inspecting b _ _ => some b
  | .released b _ _ => some b
  | .filling b _ _ _ _ _ => some b
  | .blockedForbidden b => some b
  | .blockedFaults b _ => some b
  | .arrived => none
  | .loaded _ => none

/-- The plan (R5). -/
def CompState.plan : CompState → Option Plan
  | .queued _ pl => some pl
  | .washing _ pl _ _ => some pl
  | .washed _ pl => some pl
  | .inspecting _ pl _ => some pl
  | .released _ pl _ => some pl
  | .filling _ pl _ _ _ _ => some pl
  | .blockedFaults _ pl => pl
  | .arrived => none
  | .loaded _ => none
  | .blockedForbidden _ => none

/-- The release record (R6). -/
def CompState.release : CompState → Option Release
  | .released _ _ r => some r
  | .filling _ _ _ r _ _ => some r
  | .arrived => none
  | .queued .. => none
  | .washing .. => none
  | .washed .. => none
  | .inspecting .. => none
  | .loaded _ => none
  | .blockedForbidden _ => none
  | .blockedFaults .. => none

/-- The fill record with its halt set (R7, R117). -/
def CompState.fill : CompState → Option (Fill × HaltSet)
  | .filling _ _ _ _ f h => some (f, h)
  | .arrived => none
  | .queued .. => none
  | .washing .. => none
  | .washed .. => none
  | .inspecting .. => none
  | .released .. => none
  | .loaded _ => none
  | .blockedForbidden _ => none
  | .blockedFaults .. => none

/-- The loaded quantity (R7). -/
def CompState.loadedPart : CompState → Option Loaded
  | .loaded q => some q
  | .arrived => none
  | .queued .. => none
  | .washing .. => none
  | .washed .. => none
  | .inspecting .. => none
  | .released .. => none
  | .filling .. => none
  | .blockedForbidden _ => none
  | .blockedFaults .. => none

/-- The wash phase (R4). -/
def CompState.washPhase : CompState → Option WashPhase
  | .washing _ _ _ ph => some ph
  | .arrived => none
  | .queued .. => none
  | .washed .. => none
  | .inspecting .. => none
  | .released .. => none
  | .filling .. => none
  | .loaded _ => none
  | .blockedForbidden _ => none
  | .blockedFaults .. => none

/-- The halt set is empty: the fill is FLOWING (R117). -/
def HaltSet.isEmpty (h : HaltSet) : Bool := !h.limit && !h.ground && !h.overfill

/-- The empty halt set (R115, R122). -/
def noHalts : HaltSet := ⟨false, false, false⟩

/-- The state of the record with another state part. -/
def Comp.withSt (c : Comp) (st : CompState) : Comp := { c with st := st }

/-- The step a plan's current step index names (R5). A plan without one holds no step to run: the free value of Config
stands there (log entry 14). -/
def Plan.current (pl : Plan) : WashStep :=
  match pl.steps[pl.index - 1]? with
  | some st => st
  | none => Config.missingStep pl.index

/-- A plan stopped by a return to the wash queue or a block keeps its step, dose and active seconds; its silence seconds
and mismatch count are 0 (R20, R61, R83). -/
def Plan.stopped (pl : Plan) : Plan := { pl with silence := 0, mismatch := 0 }

/-- A set of capabilities lies within another (R56). -/
def Caps.within (needs has : Caps) : Bool :=
  (!needs.steam || has.steam) && (!needs.solvent || has.solvent) && (!needs.food || has.food)

/-! ### Finding a compartment -/

/-- A compartment that a tag and an index name: its tanker slot, its tanker, its compartment slot, its record. -/
structure Found where
  tslot : TankerSlot
  tanker : Tanker
  slot : Slot
  comp : Comp
  deriving DecidableEq, Repr

/-- The tanker record that holds a tag, with its slot (R166). No two records hold the same tag (R1). -/
def State.findTanker (s : State) (tag : Nat) : Option (TankerSlot × Tanker) :=
  (List.finRange 32).findSome? fun t =>
    match s.tankerAt t with
    | some k => if k.tag = tag then some (t, k) else none
    | none => none

/-- The compartment record that a tag and an index name (R2, R166). -/
def State.find (s : State) (tag index : Nat) : Option Found :=
  match s.findTanker tag with
  | none => none
  | some (t, k) =>
    if 1 ≤ index ∧ index ≤ k.count then
      match s.compAt (compSlot t index) with
      | some c => some { tslot := t, tanker := k, slot := compSlot t index, comp := c }
      | none => none
    else none

/-- The tanker docked to a bay (R52), read from the docked bay of the tanker records. -/
def State.dockedTanker (s : State) (p : Port) : Option (TankerSlot × Tanker) :=
  (List.finRange 32).findSome? fun t =>
    match s.tankerAt t with
    | some k => if k.docked = some p then some (t, k) else none
    | none => none

/-- The compartments a port holds, in slot order (R12). -/
def State.heldBy (s : State) (p : Port) : List Comp :=
  s.records.filter fun c => c.st.holder == some p

/-- The compartment that is FILLING on an arm, with its slot (R107). -/
def State.fillOn (s : State) (a : Arm) : Option (Slot × Comp) :=
  (List.finRange 192).findSome? fun k =>
    match s.compAt k with
    | some c =>
      match c.st.fill with
      | some (f, _) => if f.arm = a then some (k, c) else none
      | none => none
    | none => none

/-- The line a function instance is bound to (R151). -/
def State.boundLine (s : State) (f : Func) : Option LineNo :=
  (List.finRange 24).find? fun l => (s.line l).func == some f

/-- The filtered level of the line a function instance is bound to (R114). -/
def State.boundLevel (s : State) (f : Func) : Option Level :=
  (s.boundLine f).map fun l => (s.line l).level

/-! ### The wash queue (R47 to R50) -/

/-- The priority of the booking of an entry's compartment, which is the entry's group (R47). -/
def State.group (s : State) (e : Entry) : Option Priority :=
  match s.find e.tag e.index with
  | some f => f.comp.st.booking.map (·.priority)
  | none => none

/-- The entry stands in the URGENT group. -/
def State.isUrgent (s : State) (e : Entry) : Bool := s.group e == some .urgent

/-- The queue with an entry added at the tail of a group (R48). -/
def State.atTail (s : State) (pr : Priority) (e : Entry) : List Entry :=
  match pr with
  | .urgent => s.queue.takeWhile s.isUrgent ++ e :: s.queue.dropWhile s.isUrgent
  | .normal => s.queue ++ [e]

/-- The queue with an entry added at the head of a group (R49). -/
def State.atHead (s : State) (pr : Priority) (e : Entry) : List Entry :=
  match pr with
  | .urgent => e :: s.queue
  | .normal => s.queue.takeWhile s.isUrgent ++ e :: s.queue.dropWhile s.isUrgent

/-- The state with an entry removed; the entries after it keep their order (R50). -/
def State.dequeue (s : State) (e : Entry) : State :=
  { s with queue := s.queue.filter fun x => x != e }

/-- The position of an entry, counted from 1 (R47). -/
def State.position (s : State) (e : Entry) : Nat := s.queue.findIdx (· == e) + 1

/-- The entry of a compartment. -/
def Comp.entry (c : Comp) : Entry := { tag := c.tag, index := c.index }

/-- The compartment in slot `k` becomes QUEUED with this booking and plan, its entry at the tail of the booking's group
(R48). -/
def State.enqueueTail (s : State) (k : Slot) (c : Comp) (b : Booking) (pl : Plan) : State :=
  { s with
    queue := s.atTail b.priority c.entry
    comps := s.comps.set k (some (c.withSt (.queued b pl))) }

/-- The compartment in slot `k` becomes QUEUED with this booking and plan, its entry at the head of the booking's group
(R49). -/
def State.enqueueHead (s : State) (k : Slot) (c : Comp) (b : Booking) (pl : Plan) : State :=
  { s with
    queue := s.atHead b.priority c.entry
    comps := s.comps.set k (some (c.withSt (.queued b pl))) }

/-! ### Demands, latches and pins (R84, R125, R139, R148, R149) -/

/-- A compartment is FILLING on the arm in phase FLOWING (R125). -/
def flowsOn (a : Arm) (c : Comp) : Bool :=
  match c.st.fill with
  | some (f, h) => f.arm == a && h.isEmpty
  | none => false

/-- The PERMIT demand of an arm (R125). -/
def State.permitDemand (s : State) (a : Arm) : Bool := s.records.any (flowsOn a)

/-- The port holds the compartment in wash phase ACTIVE (R84). -/
def activeFor (p : Port) (c : Comp) : Bool :=
  c.st.washPhase == some .active && c.st.holder == some p

/-- The WASH_ENABLE demand of a port (R84). -/
def State.washEnableDemand (s : State) (p : Port) : Bool := s.records.any (activeFor p)

/-- The ALARM demand: it is asserted if and only if the attention condition holds (R139). -/
def State.alarmDemand (s : State) : Bool := s.attention

/-- The demand of a function instance, if it has one (R149). -/
def State.demand (s : State) : Func → Option Bool
  | .permit a => some (s.permitDemand a)
  | .washEnable p => some (s.washEnableDemand p)
  | .alarm => some s.alarmDemand
  | .ground _ => none
  | .overfill _ => none
  | .rinseProbe _ => none

/-- The line with its latch at the demand of its function instance, where that has a demand (R149). -/
def State.follow (s : State) (x : Line) : Line :=
  match x.func with
  | some f =>
    match s.demand f with
    | some d => { x with latch := d }
    | none => x
  | none => x

/-- The latches of all bound output lines follow the demands as they now stand (R149). -/
def State.driveLatches (s : State) : State :=
  { s with lines := s.lines.map s.follow }

/-- What a line drives its pin to (R148). -/
def Line.drive (x : Line) : Drive :=
  match x.mode with
  | .outputPushPull =>
    match x.polarity with
    | .high => if x.latch then .high else .low
    | .low => if x.latch then .low else .high
  | .outputOpen =>
    match x.polarity with
    | .low => if x.latch then .low else .released
    | .high => if x.latch then .released else .low
  | .input => .undriven
  | .inputFiltered => .undriven
  | .analog => .undriven

/-- What the pin of a line is driven to (R148). -/
def State.pin (s : State) (l : LineNo) : Drive := (s.line l).drive

/-! ### Incidents (R133, R134) -/

/-- Capturing an incident: an empty slot stores it; a full slot is kept and its overflow flag set (R134). -/
def Comp.capture (c : Comp) (i : Incident) : Comp :=
  match c.incident with
  | none => { c with incident := some i }
  | some _ => { c with overflow := true }

/-! ### Answers and the check chain (R163, R182) -/

/-- What a request is answered with: result, detail, and the data after the detail byte (R182). -/
structure Answer where
  result : Result
  detail : Nat
  data : List Byte
  deriving DecidableEq, Repr

/-- OK, detail 0, and data. -/
def okWith (data : List Byte) : Answer := { result := .ok, detail := 0, data := data }

/-- A refusal with a detail and nothing after it (R163). -/
def refuse (r : Result) (detail : Nat) : Answer := { result := r, detail := detail, data := [] }

/-- The role permits the request (R159). -/
def permitted (r : ReqName) (role : Role) : Bool :=
  match r with
  | .readStatus | .setReplyLimit => true
  | .readLines | .readCompartment | .readRecords | .readQueue => role != .none
  | .setTime | .defineProduct | .deleteProduct | .setMatrixRow | .defineProgram | .setClassLimit
  | .setPortRole | .setAccessMap | .configureLine | .lockLines | .setLine | .setProbeCalibration
  | .mapArm | .clearYard
  | .registerTanker | .book | .revoke | .unblock | .ackIncident | .departTanker => role == .office
  | .nextWork | .stepStart | .washSample | .giveBack | .undock => role == .wash
  | .inspectBegin | .inspectResult | .inspectCancel => role == .inspect
  | .fillBegin | .fillVolume | .fillResume | .fillEnd => role == .fill

/-- The port's access map denies the request (R162). A request of port A never meets this check. -/
def State.denies (s : State) (p : Port) (r : ReqName) : Bool :=
  p != .A && (s.port p).denied.contains r

/-- The payload of a reply: result, flag byte, detail, data (R182). -/
def State.replyPayload (s : State) (p : Port) (a : Answer) : List Byte :=
  BitVec.ofNat 8 (resultCode a.result) :: s.flagByte p :: BitVec.ofNat 8 a.detail :: a.data

/-- Building the reply of a port and entering REPLYING: the type byte holds the code with bit 7 set, the payload carries
the link flags and the ATTENTION bit as they now stand, and the port's link flags are cleared (R178, R181, R182). -/
def State.reply (s : State) (p : Port) (code : Nat) (a : Answer) : State :=
  s.setPort p { s.port p with
    rx := .replying { typeByte := BitVec.ofNat 8 (code % 128 + 128), payload := s.replyPayload p a }
    flags := noFlags }

/-- The bytes a reply is sent as (R182). -/
def Reply.frame (r : Reply) : List Byte := longFrame r.typeByte r.payload

/-- A request is taken: checks 1 and 2, then the checks and the action of its owner in one taking, then the reply (R163,
R164). -/
def State.serve (s : State) (r : ReqName) (p : Port) (act : State → State × Answer) : State :=
  if !permitted r (s.role p) then s.reply p r.code (refuse .role 0)
  else if s.denies p r then s.reply p r.code (refuse .denied 0)
  else (act s).1.reply p r.code (act s).2

/-- Check 3: arguments out of range refuse the request with RANGE (R163, R165). -/
def withArgs (args : Except Nat (List Nat)) (s : State) (act : List Nat → State × Answer) : State × Answer :=
  match args with
  | .error d => (s, refuse .range d)
  | .ok vs => act vs

/-- Checks 4 and 5: the tanker is present and the index within its compartment count (R163, R166). -/
def State.withComp (s : State) (tag index : Nat) (act : Found → State × Answer) : State × Answer :=
  match s.findTanker tag with
  | none => (s, refuse .noTanker 0)
  | some _ =>
    match s.find tag index with
    | none => (s, refuse .noCompartment 0)
    | some f => act f

/-- Check 6 of a request that needs the hold (R13). -/
def needsHold (p : Port) (s : State) (c : Comp) (act : State × Answer) : State × Answer :=
  match c.st.holder with
  | none => (s, refuse .notHolder 0)
  | some h => if h = p then act else (s, refuse .held (portLetter h))

/-- Check 6 of a request that needs no holder (R13). -/
def needsNoHolder (s : State) (c : Comp) (act : State × Answer) : State × Answer :=
  match c.st.holder with
  | none => act
  | some h => (s, refuse .held (portLetter h))

/-- A STATE refusal: the detail is the code of the compartment's state (R167). -/
def stateRefusal (c : Comp) : Answer := refuse .state (stateCode c.st)

end Sys2Proof.Machine
end

