-- ==== Sys2Proof/Machine/Planning.lean ====
section
/-! DEFINITION. The planner: catalogue, class matrix, class limits, wash programs, plan derivation, BOOK and UNBLOCK
(02, R24 to R46). -/

namespace Sys2Proof.Machine

/-! ### The tables -/

/-- A record refers to the product code, as its last product or as its booking's target (R25). -/
def refersTo (code : Nat) (c : Comp) : Bool :=
  c.last.any (·.code == code) || c.st.booking.any (·.target == code)

/-- The code is referenced (R25). -/
def State.referenced (s : State) (code : Nat) : Bool := s.records.any (refersTo code)

/-- The catalogue with an entry written: it replaces the entry of its code or joins in code order (R24, R26). -/
def putProduct (e : Product) : List Product → List Product
  | [] => [e]
  | x :: xs =>
    if e.code < x.code then e :: x :: xs
    else if e.code = x.code then e :: xs
    else x :: putProduct e xs

/-- DEFINE PRODUCT (R26). -/
def defineProduct (e : Product) (s : State) : State × Answer :=
  if s.referenced e.code then (s, refuse .referenced 0)
  else if (s.product? e.code).isNone && s.catalogue.length ≥ Config.catalogueSize then (s, refuse .full 0)
  else
    ({ s with catalogue := putProduct e s.catalogue },
      okWith (beBytes 1 (putProduct e s.catalogue).length))

/-- DELETE PRODUCT (R27). -/
def deleteProduct (code : Nat) (s : State) : State × Answer :=
  if (s.product? code).isNone then (s, refuse .unknownProduct 0)
  else if s.referenced code then (s, refuse .referenced 0)
  else
    ({ s with catalogue := s.catalogue.filter fun e => e.code != code },
      okWith (beBytes 1 (s.catalogue.filter fun e => e.code != code).length))

/-- A row of sixteen levels from a list (R29). -/
def matrixRow (levels : List Nat) : Vector Nat 16 :=
  (Vector.finRange 16).map fun c => levels.getD c.val 0

/-- SET MATRIX ROW: all sixteen levels of the row together (R29). -/
def setMatrixRow (row : ClassNo) (levels : List Nat) (s : State) : State × Answer :=
  ({ s with matrix := s.matrix.set row (matrixRow levels) }, okWith [])

/-- SET CLASS LIMIT (R31). -/
def setClassLimit (cls : ClassNo) (limit : ClassLimit) (s : State) : State × Answer :=
  ({ s with limits := s.limits.set cls limit }, okWith [])

/-- The steps that the arguments of DEFINE PROGRAM carry, five for each step (R33). -/
def stepsOfArgs : Nat → List Nat → List WashStep
  | 0, _ => []
  | n + 1, vs =>
    { medium := mediumOfCode (arg vs 1), tMin := arg vs 2, fMin := arg vs 3, dReq := arg vs 4,
      maxActive := arg vs 5 } :: stepsOfArgs n (vs.drop 5)

/-- DEFINE PROGRAM: the whole step list of a level from 1 to 6 is replaced (R33). -/
def defineProgram (level : Nat) (steps : List WashStep) (s : State) : State × Answer :=
  ({ s with programs := s.programs.set (Fin.ofNat 6 (level - 1)) steps }, okWith [])

/-! ### Derivation (R34 to R36) -/

/-- What a derivation finds (R34). -/
inductive Derived
  | forbidden
  | level (n : Nat)
  deriving DecidableEq, Repr

/-- The level a reply reports: 7 for FORBIDDEN (R38). -/
def Derived.code : Derived → Nat
  | .forbidden => 7
  | .level n => n

/-- The minimum level after of a last product; 0 for CLEAN (R24, R34). -/
def State.minLevelAfter (s : State) (code : Nat) : Nat :=
  if code = 0 then 0
  else
    match s.product? code with
    | some e => e.minLevelAfter
    | none => Config.unlistedMinLevelAfter code

/-- The target product has the FOOD flag; a clean return has none (R24). -/
def State.foodTarget (s : State) (code : Nat) : Bool := (s.product? code).any (·.food)

/-- The food need of a booking is met by a food-bay flag (R34). -/
def foodMet (food foodBay : Bool) : Bool := !food || foodBay

/-- The derived level of a compartment for a target class and FOOD flag (R34). -/
def State.derive (s : State) (c : Comp) (cls : ClassNo) (food : Bool) : Derived :=
  match c.last with
  | none => .level 6
  | some l =>
    if s.matrixLevel l.cls cls = 7 then .forbidden
    else if max (s.matrixLevel l.cls cls) (s.minLevelAfter l.code) = 0 then
      if food && c.st.plan.any (fun pl => !pl.foodBay) then .level 1 else .level 0
    else .level (max (s.matrixLevel l.cls cls) (s.minLevelAfter l.code))

/-- The capability needs of a plan: STEAM and SOLVENT from its steps, FOOD from the target (R36, R40). -/
def needsOf (steps : List WashStep) (food : Bool) : Caps :=
  { steam := steps.any (·.medium == .steam), solvent := steps.any (·.medium == .solvent), food := food }

/-- A new plan of a level from 1 to 6, or none where the program of that level is undefined (R36). -/
def State.newPlan (s : State) (level : Nat) (food : Bool) : Option Plan :=
  if (s.program level).isEmpty then none
  else
    some
      { level := level, steps := s.program level, index := 1, dose := 0, active := 0, silence := 0,
        mismatch := 0, foodBay := true, needs := needsOf (s.program level) food }

/-- A level-0 plan; its food-bay flag is clear when the plan it replaces has its flag clear (R36). -/
def zeroPlan (old : Option Plan) (food : Bool) : Plan :=
  { level := 0, steps := [], index := 1, dose := 0, active := 0, silence := 0, mismatch := 0,
    foodBay := old.all (·.foodBay), needs := needsOf [] food }

/-- A kept plan with its capability needs recomputed for a new target (R40). -/
def Plan.rebooked (pl : Plan) (food : Bool) : Plan := { pl with needs := needsOf pl.steps food }

/-- The plan outcome a reply reports (R38, R183). -/
inductive PlanOutcome
  | none | new | kept
  deriving DecidableEq, Repr

def PlanOutcome.code : PlanOutcome → Nat
  | .none => 0
  | .new => 1
  | .kept => 2

/-- The answer of an accepted BOOK or UNBLOCK: new state code, derived level, plan outcome (R38, R186). -/
def planAnswer (state : Nat) (d : Derived) (o : PlanOutcome) : Answer :=
  okWith (beBytes 1 state ++ beBytes 1 d.code ++ beBytes 1 o.code)

/-! ### Booking by state (R39 to R44) -/

/-- The outcomes of R39: an ARRIVED compartment, a BLOCKED(FORBIDDEN) one that is booked (R44), and UNBLOCK (R46). A plan
it still holds is replaced. -/
def planAfresh (k : Slot) (c : Comp) (b : Booking) (food : Bool) (d : Derived) (s : State) : State × Answer :=
  match d with
  | .forbidden => (s.setComp k (c.withSt (.blockedForbidden b)), planAnswer 9 d .none)
  | .level 0 =>
    (s.setComp k { c with st := .washed b (zeroPlan c.st.plan food), performed := 0 }, planAnswer 4 d .new)
  | .level (n + 1) =>
    match s.newPlan (n + 1) food with
    | none => (s, refuse .noProgram (n + 1))
    | some pl => (s.enqueueTail k c b pl, planAnswer 2 d .new)

/-- A QUEUED compartment stays QUEUED under a new booking: its entry keeps its place, or moves to the tail of the new
group when the priority changes (R40, R48). -/
def requeue (k : Slot) (c : Comp) (old b : Booking) (pl : Plan) (s : State) : State :=
  if b.priority = old.priority then s.setComp k (c.withSt (.queued b pl))
  else (s.dequeue c.entry).enqueueTail k c b pl

/-- BOOK of a QUEUED compartment (R40). -/
def bookQueued (k : Slot) (c : Comp) (old : Booking) (pl : Plan) (b : Booking) (food : Bool) (d : Derived)
    (s : State) : State × Answer :=
  match d with
  | .forbidden => ((s.dequeue c.entry).setComp k (c.withSt (.blockedForbidden b)), planAnswer 9 d .none)
  | .level 0 =>
    ((s.dequeue c.entry).setComp k { c with st := .washed b (zeroPlan (some pl) food), performed := 0 },
      planAnswer 4 d .new)
  | .level (n + 1) =>
    if n + 1 = pl.level ∧ foodMet food pl.foodBay = true then
      (requeue k c old b (pl.rebooked food) s, planAnswer 2 d .kept)
    else
      match s.newPlan (n + 1) food with
      | none => (s, refuse .noProgram (n + 1))
      | some npl => (requeue k c old b npl s, planAnswer 2 d .new)

/-- BOOK of a WASHED compartment, and of a RELEASED one whose release does not cover the booking (R41, R43). -/
def bookWashed (k : Slot) (c : Comp) (pl : Plan) (b : Booking) (food : Bool) (d : Derived)
    (s : State) : State × Answer :=
  match d with
  | .forbidden => (s.setComp k (c.withSt (.blockedForbidden b)), planAnswer 9 d .none)
  | .level n =>
    if n ≤ c.performed ∧ foodMet food pl.foodBay = true then
      (s.setComp k (c.withSt (.washed b (pl.rebooked food))), planAnswer 4 d .kept)
    else
      match s.newPlan n food with
      | none => (s, refuse .noProgram n)
      | some npl => (s.enqueueTail k c b npl, planAnswer 2 d .new)

/-- The coverage test (R42). -/
def State.covers (s : State) (r : Release) (d : Derived) (cls : ClassNo) (food : Bool) : Bool :=
  match d with
  | .forbidden => false
  | .level n =>
    n ≤ r.performed && r.conductivity ≤ (s.classLimit cls).conductivity && foodMet food r.foodBay

/-- BOOK of a RELEASED compartment (R43). -/
def bookReleased (k : Slot) (c : Comp) (pl : Plan) (r : Release) (b : Booking) (food : Bool) (d : Derived)
    (s : State) : State × Answer :=
  if s.covers r d b.cls food then
    (s.setComp k (c.withSt (.released b (pl.rebooked food) { r with target := b.target })), planAnswer 6 d .kept)
  else bookWashed k c pl b food d s

/-- BOOK of a BLOCKED(FAULTS) compartment: it stays blocked with its fault count (R44). -/
def bookFaults (k : Slot) (c : Comp) (b : Booking) (food : Bool) (d : Derived) (s : State) : State × Answer :=
  match d with
  | .forbidden => (s.setComp k (c.withSt (.blockedFaults b none)), planAnswer 9 d .none)
  | .level 0 =>
    (s.setComp k (c.withSt (.blockedFaults b (some (zeroPlan c.st.plan food)))), planAnswer 9 d .new)
  | .level (n + 1) =>
    match s.newPlan (n + 1) food with
    | none => (s, refuse .noProgram (n + 1))
    | some pl => (s.setComp k (c.withSt (.blockedFaults b (some pl))), planAnswer 9 d .new)

/-- The class of a booking target: that of the catalogue entry, or 0 for a clean return; none for a code without an entry
(R38). -/
def State.targetClass (s : State) (target : Nat) : Option ClassNo :=
  if target = 0 then some 0 else (s.product? target).map (·.cls)

/-- BOOK by the compartment's state, with the booking to be written (R39 to R44). A compartment that is held or LOADED is
refused before (R38). -/
def bookBy (f : Found) (b : Booking) (food : Bool) (s : State) : State × Answer :=
  match f.comp.st with
  | .arrived => planAfresh f.slot f.comp b food (s.derive f.comp b.cls food) s
  | .queued old pl => bookQueued f.slot f.comp old pl b food (s.derive f.comp b.cls food) s
  | .washed _ pl => bookWashed f.slot f.comp pl b food (s.derive f.comp b.cls food) s
  | .released _ pl r => bookReleased f.slot f.comp pl r b food (s.derive f.comp b.cls food) s
  | .blockedForbidden _ => planAfresh f.slot f.comp b food (s.derive f.comp b.cls food) s
  | .blockedFaults _ _ => bookFaults f.slot f.comp b food (s.derive f.comp b.cls food) s
  | .washing .. => (s, stateRefusal f.comp)
  | .inspecting .. => (s, stateRefusal f.comp)
  | .filling .. => (s, stateRefusal f.comp)
  | .loaded _ => (s, stateRefusal f.comp)

/-- BOOK (R38): check 7 refuses a LOADED compartment before the target is looked up. -/
def book (tag index target : Nat) (pr : Priority) (s : State) : State × Answer :=
  s.withComp tag index fun f =>
    needsNoHolder s f.comp
      (if stateCode f.comp.st = 8 then (s, stateRefusal f.comp)
       else
        match s.targetClass target with
        | none => (s, refuse .unknownProduct 0)
        | some cls => bookBy f { target := target, cls := cls, priority := pr } (s.foodTarget target) s)

/-- UNBLOCK of a BLOCKED compartment: the fault count becomes 0 and the plan is derived again for the booking it holds
(R46). -/
def unblockWith (f : Found) (b : Booking) (s : State) : State × Answer :=
  planAfresh f.slot { f.comp with faults := 0 } b (s.foodTarget b.target)
    (s.derive f.comp b.cls (s.foodTarget b.target)) s

/-- UNBLOCK (R46). -/
def unblock (tag index : Nat) (s : State) : State × Answer :=
  s.withComp tag index fun f =>
    match f.comp.st with
    | .blockedForbidden b => unblockWith f b s
    | .blockedFaults b _ => unblockWith f b s
    | .arrived => (s, stateRefusal f.comp)
    | .queued .. => (s, stateRefusal f.comp)
    | .washing .. => (s, stateRefusal f.comp)
    | .washed .. => (s, stateRefusal f.comp)
    | .inspecting .. => (s, stateRefusal f.comp)
    | .released .. => (s, stateRefusal f.comp)
    | .filling .. => (s, stateRefusal f.comp)
    | .loaded _ => (s, stateRefusal f.comp)

/-! ### The requests as they are taken from a port -/

/-- The catalogue entry that the arguments of DEFINE PRODUCT carry (R26). -/
def productOfArgs (vs : List Nat) : Product :=
  { code := arg vs 1, cls := Fin.ofNat 16 (arg vs 2), food := arg vs 3 == 1, minLevelAfter := arg vs 4,
    fillPercent := arg vs 5 }

def takeDefineProduct (p : Port) (payload : List Byte) (s : State) : State :=
  s.serve .defineProduct p fun s =>
    withArgs (checkLong defineProductFields payload) s fun vs => defineProduct (productOfArgs vs) s

def takeDeleteProduct (p : Port) (b1 b2 : Byte) (s : State) : State :=
  s.serve .deleteProduct p fun s =>
    withArgs (checkShort deleteProductFields b1 b2) s fun vs => deleteProduct (arg vs 1) s

def takeSetMatrixRow (p : Port) (payload : List Byte) (s : State) : State :=
  s.serve .setMatrixRow p fun s =>
    withArgs (checkLong setMatrixRowFields payload) s fun vs =>
      setMatrixRow (Fin.ofNat 16 (arg vs 1)) (vs.drop 1) s

/-- The step count that a DEFINE PROGRAM payload carries (R33). -/
def programCount (payload : List Byte) : Nat := (payload.getD 1 0).toNat

def takeDefineProgram (p : Port) (payload : List Byte) (s : State) : State :=
  s.serve .defineProgram p fun s =>
    withArgs (checkPayload (defineProgramFields payload.length (programCount payload)) 2 payload) s fun vs =>
      defineProgram (arg vs 1) (stepsOfArgs (arg vs 2) (vs.drop 2)) s

def takeSetClassLimit (p : Port) (payload : List Byte) (s : State) : State :=
  s.serve .setClassLimit p fun s =>
    withArgs (checkLong setClassLimitFields payload) s fun vs =>
      setClassLimit (Fin.ofNat 16 (arg vs 1)) { conductivity := arg vs 2, validityHours := arg vs 3 } s

def takeBook (p : Port) (payload : List Byte) (s : State) : State :=
  s.serve .book p fun s =>
    withArgs (checkLong bookFields payload) s fun vs =>
      book (arg vs 1) (arg vs 2) (arg vs 3) (priorityOfCode (arg vs 4)) s

def takeUnblock (p : Port) (payload : List Byte) (s : State) : State :=
  s.serve .unblock p fun s =>
    withArgs (checkLong addressFields payload) s fun vs => unblock (arg vs 1) (arg vs 2) s

/-! ### The commands -/

/-- DEFINE_PRODUCT (R26). -/
def execDefineProduct (p : Port) (payload : List Byte) (s : State) : Host.Outcome State Fault Refusal :=
  .next (takeDefineProduct p payload s)

/-- DELETE_PRODUCT (R27). -/
def execDeleteProduct (p : Port) (b1 b2 : Byte) (s : State) : Host.Outcome State Fault Refusal :=
  .next (takeDeleteProduct p b1 b2 s)

/-- SET_MATRIX_ROW (R29). -/
def execSetMatrixRow (p : Port) (payload : List Byte) (s : State) : Host.Outcome State Fault Refusal :=
  .next (takeSetMatrixRow p payload s)

/-- DEFINE_PROGRAM (R33). -/
def execDefineProgram (p : Port) (payload : List Byte) (s : State) : Host.Outcome State Fault Refusal :=
  .next (takeDefineProgram p payload s)

/-- SET_CLASS_LIMIT (R31). -/
def execSetClassLimit (p : Port) (payload : List Byte) (s : State) : Host.Outcome State Fault Refusal :=
  .next (takeSetClassLimit p payload s)

/-- BOOK (R38). -/
def execBook (p : Port) (payload : List Byte) (s : State) : Host.Outcome State Fault Refusal :=
  .next (takeBook p payload s)

/-- UNBLOCK (R46). -/
def execUnblock (p : Port) (payload : List Byte) (s : State) : Host.Outcome State Fault Refusal :=
  .next (takeUnblock p payload s)

end Sys2Proof.Machine
end

