-- ==== Sys2Proof/Machine/Yard.lean ====
section
/-! DEFINITION. The yard's records: reset, registering, departing, clearing, revoking and reading (01, R1 to R23; layout
R186). -/

namespace Sys2Proof.Machine

/-! ### Leaving a stage before its end -/

/-- A WASHING compartment goes back to the wash queue at the head of its group, its progress kept, its hold dropped and
its bay's WASH_ENABLE demand re-evaluated (R20, R61). -/
def returnToQueue (k : Slot) (c : Comp) (b : Booking) (pl : Plan) (s : State) : State :=
  (s.enqueueHead k c b pl.stopped).driveLatches

/-- The class a new last product takes: that of its catalogue entry (R21, R123). The booked class is the same while the
booking names the product (R25), and stands in where no entry is found. -/
def State.loadedClass (s : State) (product : Nat) (b : Booking) : ClassNo :=
  match s.product? product with
  | some e => e.cls
  | none => b.cls

/-- A FILLING compartment becomes LOADED with a quantity: its last product is the one loaded, and booking, plan, release
and fill record are removed (R21, R123). -/
def State.loadComp (s : State) (c : Comp) (b : Booking) (f : Fill) (quantity : Nat) (partLoaded : Bool) : Comp :=
  { c with
    last := some { code := f.product, cls := s.loadedClass f.product b }
    st := .loaded { quantity := quantity, partLoaded := partLoaded } }

/-! ### Registering (R14, R15, R184) -/

/-- The capacity and last product of compartments `i` on, four bytes each; `.error i` names the first compartment with a
value out of range, capacity before last product (R14). -/
def compArgs : Nat → Nat → List Byte → Except Nat (List (Nat × Nat))
  | 0, _, _ => .ok []
  | n + 1, i, bs =>
    if beValue (bs.take 2) < 500 ∨ 20000 < beValue (bs.take 2) then .error i
    else if 9999 < beValue ((bs.drop 2).take 2) ∧ beValue ((bs.drop 2).take 2) ≠ 0xFFFF then .error i
    else
      match compArgs n (i + 1) (bs.drop 4) with
      | .error d => .error d
      | .ok rest => .ok ((beValue (bs.take 2), beValue ((bs.drop 2).take 2)) :: rest)

/-- Check 3 of REGISTER TANKER in the order of R14; a payload that carries no count is refused with detail 7 whatever its
tag (R184; log entry 9). -/
def registerArgs (payload : List Byte) : Except Nat (Nat × List (Nat × Nat)) :=
  if payload.length ≤ 2 then .error 7
  else if beValue (payload.take 2) = 0 then .error 0
  else if (payload.getD 2 0).toNat < 1 ∨ 6 < (payload.getD 2 0).toNat then .error 7
  else if payload.length ≠ 3 + 4 * (payload.getD 2 0).toNat then .error 7
  else
    match compArgs (payload.getD 2 0).toNat 1 (payload.drop 3) with
    | .error d => .error d
    | .ok cs => .ok (beValue (payload.take 2), cs)

/-- The lowest-numbered free tanker slot (R2). -/
def State.freeTanker (s : State) : Option TankerSlot :=
  (List.finRange 32).find? fun t => (s.tankerAt t).isNone

/-- A last product as REGISTER TANKER carries it: 0 CLEAN, 0xFFFF unknown, else a code whose class is copied from its
entry (R15, R184). -/
def State.lastOf (s : State) (v : Nat) : Option LastProduct :=
  if v = 0xFFFF then none
  else if v = 0 then some { code := 0, cls := 0 }
  else (s.product? v).map fun e => { code := v, cls := e.cls }

/-- A last product given as a code has no entry in the catalogue (R14). -/
def State.unknownCode (s : State) (v : Nat) : Bool :=
  v != 0xFFFF && v != 0 && (s.product? v).isNone

/-- A new compartment record (R15). -/
def newComp (tag index capacity : Nat) (last : Option LastProduct) : Comp :=
  { tag := tag, index := index, capacity := capacity, last := last, performed := 0, faults := 0, st := .arrived,
    reading := none, incident := none, overflow := false, advanceDue := false }

/-- Makes the compartment records of a tanker, from index `i` on, in the slots R2 assigns (R15). -/
def makeComps (t : TankerSlot) (tag : Nat) : Nat → List (Nat × Nat) → State → State
  | _, [], s => s
  | i, (cap, last) :: rest, s =>
    makeComps t tag (i + 1) rest (s.setComp (compSlot t i) (newComp tag i cap (s.lastOf last)))

/-- REGISTER TANKER (R14, R15). -/
def registerTanker (tag : Nat) (cs : List (Nat × Nat)) (s : State) : State × Answer :=
  if (s.findTanker tag).isSome then (s, refuse .duplicate 0)
  else
    match s.freeTanker with
    | none => (s, refuse .full 0)
    | some t =>
      match cs.findIdx? fun c => s.unknownCode c.2 with
      | some i => (s, refuse .unknownProduct (i + 1))
      | none =>
        (makeComps t tag 1 cs
            (s.setTanker t (some { tag := tag, count := cs.length, arrival := s.clock, docked := none })),
          okWith (beBytes 1 t.val))

/-! ### Departing and clearing (R16 to R18) -/

/-- The compartment records of a tanker slot in rising index. -/
def State.compsOf (s : State) (t : TankerSlot) : List Comp :=
  [1, 2, 3, 4, 5, 6].filterMap fun i => s.compAt (compSlot t i)

/-- Frees a tanker slot and its six compartment slots, with all the records hold (R2, R17). -/
def State.freeTankerSlot (s : State) (t : TankerSlot) : State :=
  ((((((s.setTanker t none).freeComp (compSlot t 1)).freeComp (compSlot t 2)).freeComp (compSlot t 3)).freeComp
    (compSlot t 4)).freeComp (compSlot t 5)).freeComp (compSlot t 6)

/-- The state with every queue entry of a tanker removed; the remaining entries keep their order (R17). -/
def State.dequeueTanker (s : State) (tag : Nat) : State :=
  { s with queue := s.queue.filter fun e => e.tag != tag }

/-- DEPART TANKER (R16, R17). -/
def departTanker (tag : Nat) (s : State) : State × Answer :=
  match s.findTanker tag with
  | none => (s, refuse .noTanker 0)
  | some (t, _) =>
    match (s.compsOf t).find? fun c => c.st.holder.isSome with
    | some c => (s, refuse .held c.index)
    | none => (((s.dequeueTanker tag).freeTankerSlot t).driveLatches, okWith [])

/-- CLEAR YARD (R18). -/
def clearYard (s : State) : State × Answer :=
  (({ s with tankers := resetTankers, comps := resetComps, queue := [] } : State).driveLatches, okWith [])

/-! ### Revoking (R19 to R21) -/

/-- The answer of an accepted REVOKE: the new state code (R19). -/
def revokeAnswer (state : Nat) : Answer := okWith (beBytes 1 state)

/-- REVOKE (R19 to R21). -/
def revoke (tag index : Nat) (s : State) : State × Answer :=
  s.withComp tag index fun f =>
    match f.comp.st with
    | .washing b pl _ _ => (returnToQueue f.slot f.comp b pl s, revokeAnswer 2)
    | .inspecting b pl _ => (s.setComp f.slot (f.comp.withSt (.washed b pl)), revokeAnswer 4)
    | .released b pl _ => (s.setComp f.slot (f.comp.withSt (.washed b pl)), revokeAnswer 4)
    | .filling b _ h _ fl _ =>
      ((s.setComp f.slot
          ((s.loadComp f.comp b fl fl.delivered true).capture
            { kind := .fillRevoked, time := s.clock, port := some h, detail := armNumber fl.arm })).driveLatches,
        revokeAnswer 8)
    | .arrived => (s, stateRefusal f.comp)
    | .queued .. => (s, stateRefusal f.comp)
    | .washed .. => (s, stateRefusal f.comp)
    | .loaded _ => (s, stateRefusal f.comp)
    | .blockedForbidden _ => (s, stateRefusal f.comp)
    | .blockedFaults .. => (s, stateRefusal f.comp)

/-! ### Reading a compartment (R22, R186) -/

/-- An optional part: marker 1 and its bytes, or the marker 0 alone (R186). -/
def optPart {α : Type} (x : Option α) (bytes : α → List Byte) : List Byte :=
  match x with
  | some a => 1 :: bytes a
  | none => [0]

def bookingBytes (b : Booking) : List Byte :=
  beBytes 2 b.target ++ beBytes 1 b.cls.val ++ beBytes 1 (priorityCode b.priority)

/-- The medium of a plan's current step, 0 where it has none (R36, R183). -/
def currentMediumCode (pl : Plan) : Nat :=
  match pl.steps[pl.index - 1]? with
  | some st => mediumCode st.medium
  | none => 0

/-- The plan part (R186). Bits 6 to 3 of its last byte, which R186 gives to nothing, are 0: DESIGN CHOICE, log entry 26. -/
def planBytes (pl : Plan) : List Byte :=
  beBytes 1 pl.level ++ beBytes 1 pl.steps.length ++ beBytes 1 pl.index ++ beBytes 1 (currentMediumCode pl)
    ++ beBytes 2 pl.dose ++ beBytes 2 pl.active ++ beBytes 1 pl.silence ++ beBytes 1 pl.mismatch
    ++ beBytes 1 (capsCode pl.needs + 128 * pl.foodBay.toNat)

def readingBytes (r : Reading) : List Byte :=
  beBytes 2 r.conductivity ++ beBytes 1 (sourceCode r.source)

/-- The release part (R186). Bits 7 to 2 of its flag byte, which R186 gives to nothing, are 0: DESIGN CHOICE, log entry 26. -/
def releaseBytes (r : Release) : List Byte :=
  beBytes 2 r.target ++ beBytes 1 r.performed ++ beBytes 1 (r.foodBay.toNat + 2 * r.frozen.toNat)
    ++ beBytes 2 r.conductivity ++ beBytes 3 r.closureTag ++ beBytes 4 r.time.toNat ++ beBytes 3 r.remaining

def fillBytes (x : Fill × HaltSet) : List Byte :=
  beBytes 1 (armNumber x.1.arm) ++ beBytes 2 x.1.product ++ beBytes 2 x.1.limit ++ beBytes 2 x.1.delivered

def loadedBytes (q : Loaded) : List Byte :=
  beBytes 2 q.quantity ++ [boolByte q.partLoaded]

/-- An incident as ACK INCIDENT returns it: kind, time, port, detail (R136, R186). -/
def incidentBytes (i : Incident) : List Byte :=
  beBytes 1 (incidentCode i.kind) ++ beBytes 4 i.time.toNat ++ beBytes 1 (portCode i.port) ++ beBytes 1 i.detail

/-- The incident slot opens with its kind code, and 0 there marks it empty; an empty slot is that byte alone (R186; log
entry 18). -/
def slotBytes (c : Comp) : List Byte :=
  match c.incident with
  | some i => incidentBytes i ++ [boolByte c.overflow]
  | none => [0]

/-- The whole record, in the order of R22 and the layout of R186. -/
def recordBytes (f : Found) : List Byte :=
  beBytes 2 f.comp.tag ++ beBytes 1 f.comp.index ++ beBytes 1 f.slot.val ++ beBytes 2 f.comp.capacity
    ++ beBytes 4 f.tanker.arrival.toNat ++ beBytes 1 (portCode f.tanker.docked)
    ++ beBytes 1 (stateCode f.comp.st) ++ beBytes 1 (phaseCode f.comp.st)
    ++ optPart f.comp.last (fun l => beBytes 2 l.code ++ beBytes 1 l.cls.val)
    ++ beBytes 1 f.comp.performed ++ beBytes 1 f.comp.faults
    ++ beBytes 1 (portCode f.comp.st.holder)
    ++ optPart f.comp.st.booking bookingBytes
    ++ optPart f.comp.st.plan planBytes
    ++ optPart f.comp.reading readingBytes
    ++ optPart f.comp.st.release releaseBytes
    ++ optPart f.comp.st.fill fillBytes
    ++ optPart f.comp.st.loadedPart loadedBytes
    ++ slotBytes f.comp

/-- READ COMPARTMENT (R22). -/
def readCompartment (tag index : Nat) (s : State) : State × Answer :=
  s.withComp tag index fun f => (s, okWith (recordBytes f))

/-! ### The requests as they are taken from a port -/

def takeRegisterTanker (p : Port) (payload : List Byte) (s : State) : State :=
  s.serve .registerTanker p fun s =>
    match registerArgs payload with
    | .error d => (s, refuse .range d)
    | .ok (tag, cs) => registerTanker tag cs s

def takeDepartTanker (p : Port) (b1 b2 : Byte) (s : State) : State :=
  s.serve .departTanker p fun s =>
    withArgs (checkShort departTankerFields b1 b2) s fun vs => departTanker (arg vs 1) s

def takeClearYard (p : Port) (_b1 _b2 : Byte) (s : State) : State :=
  s.serve .clearYard p clearYard

def takeRevoke (p : Port) (payload : List Byte) (s : State) : State :=
  s.serve .revoke p fun s =>
    withArgs (checkLong addressFields payload) s fun vs => revoke (arg vs 1) (arg vs 2) s

def takeReadCompartment (p : Port) (payload : List Byte) (s : State) : State :=
  s.serve .readCompartment p fun s =>
    withArgs (checkLong addressFields payload) s fun vs => readCompartment (arg vs 1) (arg vs 2) s

/-! ### The commands -/

/-- HARDWARE_RESET (R23, R51, R129, R130, R142, R158, R171, R173): the state after reset. The commands that wait are
outside the part and keep waiting (log entry 19). -/
def execHardwareReset (s : State) : Host.Outcome State Fault Refusal :=
  .next { State.reset with pending := s.pending }

/-- REGISTER_TANKER (R15). -/
def execRegisterTanker (p : Port) (payload : List Byte) (s : State) : Host.Outcome State Fault Refusal :=
  .next (takeRegisterTanker p payload s)

/-- DEPART_TANKER (R17). -/
def execDepartTanker (p : Port) (b1 b2 : Byte) (s : State) : Host.Outcome State Fault Refusal :=
  .next (takeDepartTanker p b1 b2 s)

/-- CLEAR_YARD (R18). -/
def execClearYard (p : Port) (b1 b2 : Byte) (s : State) : Host.Outcome State Fault Refusal :=
  .next (takeClearYard p b1 b2 s)

/-- REVOKE (R19). -/
def execRevoke (p : Port) (payload : List Byte) (s : State) : Host.Outcome State Fault Refusal :=
  .next (takeRevoke p payload s)

/-- READ_COMPARTMENT (R22). -/
def execReadCompartment (p : Port) (payload : List Byte) (s : State) : Host.Outcome State Fault Refusal :=
  .next (takeReadCompartment p payload s)

end Sys2Proof.Machine
end

