-- ==== Sys2Proof/Machine/Timers.lean ====
section
/-! DEFINITION. The yard clock and the timers of the records: the advance, the three expiries, SET TIME and ACK INCIDENT
(04 §4.5, 05 §5.6, 07). -/

namespace Sys2Proof.Machine

/-! ### What an advance does to one record (R80, R102, R131) -/

/-- The counts of a running step after an advance (R80). -/
def Plan.ticked (pl : Plan) : Plan := { pl with active := pl.active + 1, silence := pl.silence + 1 }

/-- The expiries an advance can cause (R81, R82, R103). -/
inductive Expiry
  | silence | overrun | release
  deriving DecidableEq, Repr

/-- The expiry the next advance causes in a record. An overrun is taken whatever the silence seconds have reached (R82);
a frozen release is not lowered (R104). -/
def Comp.nextExpiry (c : Comp) : Option Expiry :=
  match c.st with
  | .washing _ pl _ .active =>
    if pl.current.maxActive ≤ pl.active + 1 then some .overrun
    else if Config.silenceLimit ≤ pl.silence + 1 then some .silence
    else none
  | .released _ _ r => if !r.frozen && r.remaining ≤ 1 then some .release else none
  | _ => none

/-- The record after an advance that causes no expiry in it: its running timers count (R80, R102). -/
def Comp.counted (c : Comp) : Comp :=
  match c.st with
  | .washing b pl h .active => c.withSt (.washing b pl.ticked h .active)
  | .released b pl r =>
    if r.frozen then c else c.withSt (.released b pl { r with remaining := r.remaining - 1 })
  | _ => c

/-- The record no longer owes an advance. -/
def Comp.settled (c : Comp) : Comp := { c with advanceDue := false }

/-- The record after a WASH SAMPLE taken before the advance it owed. Where the sample has averted the expiry (R85), the
record takes that advance now, after the sample: its timers count it (R80, R131), or, where the sample has stopped the step,
there is none to count. An overrun stays owed. That the advance is taken at once is DESIGN CHOICE, log entry 2. -/
def Comp.caughtUp (c : Comp) : Comp :=
  if c.advanceDue = true ∧ c.nextExpiry = none then c.counted.settled else c

/-- The record as an advance reaches it: it counts, or, where the advance causes an expiry, owes the taking of it (R131;
log entry 2). -/
def Comp.reached (c : Comp) : Comp :=
  match c.nextExpiry with
  | none => c.counted
  | some _ => { c with advanceDue := true }

/-! ### The expiries -/

/-- The silence expiry (R81): STALLED(SILENCE), no fault, no incident. -/
def stallSilent (k : Slot) (c : Comp) (b : Booking) (pl : Plan) (h : Port) (s : State) : State :=
  (s.setComp k (c.settled.withSt (.washing b pl.ticked h (.stalled .silence)))).driveLatches

/-- The overrun with the fault count staying below 3 (R82): STALLED(OVERRUN), the hold kept. -/
def stallOverrun (k : Slot) (c : Comp) (b : Booking) (pl : Plan) (h : Port) (s : State) : State :=
  (s.setComp k
    { c.settled with faults := c.faults + 1, st := .washing b pl.ticked h (.stalled .overrun) }).driveLatches

/-- The overrun that brings the fault count to 3 (R83): BLOCKED(FAULTS) with a BLOCKED incident, stamped with the clock
value the advance produced (R131). -/
def blockByOverrun (k : Slot) (c : Comp) (b : Booking) (pl : Plan) (h : Port) (s : State) : State :=
  (s.setComp k
    (({ c.settled with
        faults := Config.faultLimit
        st := .blockedFaults b (some pl.ticked.stopped) } : Comp).capture
      { kind := .blocked, time := s.lastAdvance, port := some h, detail := 0 })).driveLatches

/-- The overrun (R82). -/
def takeOverrun (k : Slot) (c : Comp) (b : Booking) (pl : Plan) (h : Port) (s : State) : State :=
  if Config.faultLimit ≤ c.faults + 1 then blockByOverrun k c b pl h s else stallOverrun k c b pl h s

/-- The expiry of a release (R103). -/
def expireRelease (k : Slot) (c : Comp) (b : Booking) (pl : Plan) (s : State) : State :=
  (s.setComp k
    ((c.settled.withSt (.washed b pl)).capture
      { kind := .releaseExpired, time := s.lastAdvance, port := none, detail := 0 })).driveLatches

/-- A record takes the expiry the advance causes in it. -/
def takeExpiry (k : Slot) (c : Comp) (s : State) : State :=
  match c.st with
  | .washing b pl h .active =>
    if pl.current.maxActive ≤ pl.active + 1 then takeOverrun k c b pl h s else stallSilent k c b pl h s
  | .released b pl _ => expireRelease k c b pl s
  | _ => s

/-- The expiry command of one record: it is taken when an advance has reached the record and the record, as it stands now,
takes that expiry from it. Otherwise another event was taken first and no expiry follows (R19, R20, R62, R85, R106). -/
def expireIf (e : Expiry) (k : Slot) (s : State) : State :=
  match s.compAt k with
  | some c => if c.advanceDue ∧ c.nextExpiry = some e then takeExpiry k c s else s
  | none => s

/-- A record that still owes an advance takes it (R131: each record takes the advance, and takes it once). DESIGN CHOICE,
log entry 2: an owed expiry is taken here at the latest. Where a request taken first has stopped the timer, only the mark is
left, and goes (R20, R62, R85, R104); a running timer that is marked stands at its expiry, so counting it here
only completes the function. -/
def settleOne (s : State) (k : Slot) : State :=
  match s.compAt k with
  | some c =>
    if c.advanceDue then
      match c.nextExpiry with
      | some _ => takeExpiry k c s
      | none => s.setComp k c.counted.settled
    else s
  | none => s

/-- Every record that still owes an advance takes it. -/
def State.settleAll (s : State) : State := (List.finRange 192).foldl settleOne s

/-- The clock takes an advance (R130) and the advance reaches every record (R131). -/
def State.advanced (s : State) : State :=
  { s with
    clock := s.clock + 1
    lastAdvance := s.clock + 1
    comps := s.comps.map fun c => c.map Comp.reached }

/-! ### SET TIME and ACK INCIDENT -/

/-- SET TIME (R132): the clock is loaded; no timer moves. -/
def setTime (v : ClockValue) (s : State) : State × Answer :=
  ({ s with clock := v }, okWith (beBytes 4 s.clock.toNat))

/-- ACK INCIDENT (R136). -/
def ackIncident (tag index : Nat) (s : State) : State × Answer :=
  s.withComp tag index fun f =>
    match f.comp.incident with
    | none => (s, stateRefusal f.comp)
    | some i =>
      ((s.setComp f.slot { f.comp with incident := none, overflow := false }).driveLatches,
        okWith (incidentBytes i ++ [boolByte f.comp.overflow]))

/-! ### The requests as they are taken from a port -/

def takeSetTime (p : Port) (payload : List Byte) (s : State) : State :=
  s.serve .setTime p fun s =>
    withArgs (checkPayload setTimeFields 1 payload) s fun vs => setTime (BitVec.ofNat 32 (arg vs 1)) s

def takeAckIncident (p : Port) (payload : List Byte) (s : State) : State :=
  s.serve .ackIncident p fun s =>
    withArgs (checkLong addressFields payload) s fun vs => ackIncident (arg vs 1) (arg vs 2) s

/-! ### The commands -/

/-- YARD_CLOCK_ADVANCE (R130, R131): an expiry still owed from the advance before is taken first (log entry 2). -/
def execYardClockAdvance (s : State) : Host.Outcome State Fault Refusal :=
  .next s.settleAll.advanced

/-- SILENCE_EXPIRY (R81). -/
def execSilenceExpiry (k : Slot) (s : State) : Host.Outcome State Fault Refusal :=
  .next (expireIf .silence k s)

/-- ACTIVE_TIME_EXPIRY (R82). -/
def execActiveTimeExpiry (k : Slot) (s : State) : Host.Outcome State Fault Refusal :=
  .next (expireIf .overrun k s)

/-- RELEASE_EXPIRY (R103). -/
def execReleaseExpiry (k : Slot) (s : State) : Host.Outcome State Fault Refusal :=
  .next (expireIf .release k s)

/-- SET_TIME (R132). -/
def execSetTime (p : Port) (payload : List Byte) (s : State) : Host.Outcome State Fault Refusal :=
  .next (takeSetTime p payload s)

/-- ACK_INCIDENT (R136). -/
def execAckIncident (p : Port) (payload : List Byte) (s : State) : Host.Outcome State Fault Refusal :=
  .next (takeAckIncident p payload s)

end Sys2Proof.Machine
end

