-- ==== Sys2Proof/Machine/WashSteps.lean ====
section
/-! DEFINITION. The wash step monitor: STEP START and WASH SAMPLE (04, R64 to R79). -/

namespace Sys2Proof.Machine

/-! ### STEP START -/

/-- The counts a step starts with: the dose kept, the active seconds kept unless they stand at the step's maximum, the
silence seconds and mismatch count 0 (R67). -/
def Plan.started (pl : Plan) : Plan :=
  { pl with
    active := if pl.active < pl.current.maxActive then pl.active else 0
    silence := 0
    mismatch := 0 }

/-- The data of an accepted STEP START (R68, R186). -/
def startBytes (pl : Plan) (faults : Nat) : List Byte :=
  beBytes 1 pl.index ++ beBytes 1 (mediumCode pl.current.medium) ++ beBytes 2 pl.current.dReq
    ++ beBytes 2 pl.dose ++ beBytes 2 pl.active ++ beBytes 2 (pl.current.maxActive - pl.active)
    ++ beBytes 1 faults

/-- A step starts or resumes: phase ACTIVE, WASH_ENABLE up (R67, R84). The timers start here, so no earlier advance is
owed (log entry 2). -/
def startStep (f : Found) (b : Booking) (pl : Plan) (h : Port) (s : State) : State :=
  (s.setComp f.slot
    { f.comp with st := .washing b pl.started h .active, advanceDue := false }).driveLatches

/-- STEP START (R66 to R68). -/
def stepStart (p : Port) (tag index step : Nat) (s : State) : State × Answer :=
  s.withComp tag index fun f =>
    needsHold p s f.comp
      (match f.comp.st with
       | .washing b pl h ph =>
         if ph = .active then (s, stateRefusal f.comp)
         else if step ≠ pl.index then (s, refuse .sequence pl.index)
         else (startStep f b pl h s, okWith (startBytes pl.started f.comp.faults))
       | _ => (s, stateRefusal f.comp))

/-! ### WASH SAMPLE -/

/-- A wash report as it is sent (R69). -/
structure Sample where
  interval : Nat
  temperature : Nat
  flow : Nat
  medium : Medium
  deriving DecidableEq, Repr

/-- The report with its quantities clamped to their ceilings (R70). -/
def Sample.clamped (x : Sample) : Sample :=
  { x with interval := min x.interval 30, temperature := min x.temperature 1500, flow := min x.flow 600 }

/-- One of the three quantities is clamped (R70). -/
def Sample.isClamped (x : Sample) : Bool :=
  30 < x.interval || 1500 < x.temperature || 600 < x.flow

/-- The notes of a reply: bit 0 CLAMPED, bit 1 MISMATCH, bit 2 GATED, bit 3 BACKWARD (R183). Bits 7 to 4, which
R183 does not name, are 0: DESIGN CHOICE, log entry 26. -/
def noteBits (clamped mismatch gated backward : Bool) : Nat :=
  clamped.toNat + 2 * mismatch.toNat + 4 * gated.toNat + 8 * backward.toNat

/-- The sample earns no dose (R73). -/
def gated (st : WashStep) (x : Sample) : Bool :=
  x.temperature < st.tMin || x.flow < st.fMin || x.interval == 0

/-- The weight of a sample that passes the gates: 16 doubled for each full 10.0 °C above T_min, up to three times (R73). -/
def weight (st : WashStep) (x : Sample) : Nat :=
  16 * 2 ^ min ((x.temperature - st.tMin) / 100) 3

/-- The increment of a sample (R74). -/
def increment (st : WashStep) (x : Sample) : Nat := x.interval * weight st x

/-- The step dose after an increment, limited to 65535 (R74). -/
def addDose (dose inc : Nat) : Nat := min (dose + inc) 65535

/-- The data of an accepted WASH SAMPLE (R76, R186). -/
def sampleBytes (notes wt inc dose mismatch : Nat) (st : CompState) (index : Nat) : List Byte :=
  beBytes 1 notes ++ beBytes 1 wt ++ beBytes 2 inc ++ beBytes 2 dose ++ beBytes 1 mismatch
    ++ beBytes 1 (stateCode st) ++ beBytes 1 (phaseCode st) ++ beBytes 1 index

/-- The food-bay rule at a completed step (R79). -/
def State.foodBayAfter (s : State) (pl : Plan) (bay : Port) : Bool :=
  pl.foodBay && (s.capsOf bay).food

/-- The plan after a completed step that is not the last (R77). -/
def Plan.nextStep (pl : Plan) (foodBay : Bool) : Plan :=
  { pl with index := pl.index + 1, dose := 0, active := 0, silence := 0, mismatch := 0, foodBay := foodBay }

/-- The plan after its last step, with the achieved dose (R78). -/
def Plan.finished (pl : Plan) (dose : Nat) (foodBay : Bool) : Plan :=
  { pl with dose := dose, silence := 0, mismatch := 0, foodBay := foodBay }

/-- A sample of the wrong medium (R72): at the third in a row the step stalls. -/
def mismatched (f : Found) (b : Booking) (pl : Plan) (h : Port) (clamped : Bool) (s : State) : State × Answer :=
  let st : CompState := .washing b { pl with silence := 0, mismatch := pl.mismatch + 1 } h
    (if Config.mismatchLimit ≤ pl.mismatch + 1 then .stalled .medium else .active)
  ((s.setComp f.slot (f.comp.withSt st).caughtUp).driveLatches,
    okWith (sampleBytes (noteBits clamped true false false) 0 0 pl.dose (pl.mismatch + 1) st pl.index))

/-- A sample of the right medium that earns nothing (R73). -/
def gatedSample (f : Found) (b : Booking) (pl : Plan) (h : Port) (clamped : Bool) (s : State) : State × Answer :=
  let st : CompState := .washing b { pl with silence := 0, mismatch := 0 } h .active
  (s.setComp f.slot (f.comp.withSt st).caughtUp,
    okWith (sampleBytes (noteBits clamped false true false) 0 0 pl.dose 0 st pl.index))

/-- A sample that earns dose and does not complete the step (R74, R75). -/
def earningSample (f : Found) (b : Booking) (pl : Plan) (h : Port) (clamped : Bool) (wt inc dose : Nat)
    (s : State) : State × Answer :=
  let st : CompState := .washing b { pl with silence := 0, mismatch := 0, dose := dose } h .active
  (s.setComp f.slot (f.comp.withSt st).caughtUp,
    okWith (sampleBytes (noteBits clamped false false false) wt inc dose 0 st pl.index))

/-- A sample that completes a step that is not the last (R75, R77). -/
def stepComplete (f : Found) (b : Booking) (pl : Plan) (h : Port) (clamped : Bool) (wt inc dose : Nat)
    (s : State) : State × Answer :=
  let st : CompState := .washing b (pl.nextStep (s.foodBayAfter pl h)) h .between
  ((s.setComp f.slot (f.comp.withSt st).caughtUp).driveLatches,
    { result := .done, detail := 0,
      data := sampleBytes (noteBits clamped false false false) wt inc dose 0 st (pl.index + 1) })

/-- A sample that completes the last step of the plan (R75, R78). -/
def planComplete (f : Found) (b : Booking) (pl : Plan) (h : Port) (clamped : Bool) (wt inc dose : Nat)
    (s : State) : State × Answer :=
  let st : CompState := .washed b (pl.finished dose (s.foodBayAfter pl h))
  ((s.setComp f.slot (Comp.caughtUp { f.comp with st := st, performed := pl.level })).driveLatches,
    { result := .done, detail := 0,
      data := sampleBytes (noteBits clamped false false false) wt inc dose 0 st pl.index })

/-- The stages of a sample of a running step (R70 to R75). -/
def takeSample (f : Found) (b : Booking) (pl : Plan) (h : Port) (x : Sample) (s : State) : State × Answer :=
  if x.medium ≠ pl.current.medium then mismatched f b pl h x.isClamped s
  else if gated pl.current x.clamped then gatedSample f b pl h x.isClamped s
  else if addDose pl.dose (increment pl.current x.clamped) < pl.current.dReq then
    earningSample f b pl h x.isClamped (weight pl.current x.clamped) (increment pl.current x.clamped)
      (addDose pl.dose (increment pl.current x.clamped)) s
  else if pl.index < pl.steps.length then
    stepComplete f b pl h x.isClamped (weight pl.current x.clamped) (increment pl.current x.clamped)
      (addDose pl.dose (increment pl.current x.clamped)) s
  else
    planComplete f b pl h x.isClamped (weight pl.current x.clamped) (increment pl.current x.clamped)
      (addDose pl.dose (increment pl.current x.clamped)) s

/-- WASH SAMPLE (R69). -/
def washSample (p : Port) (tag index : Nat) (x : Sample) (s : State) : State × Answer :=
  s.withComp tag index fun f =>
    needsHold p s f.comp
      (match f.comp.st with
       | .washing b pl h .active => takeSample f b pl h x s
       | _ => (s, stateRefusal f.comp))

/-! ### The requests as they are taken from a port -/

def takeStepStart (p : Port) (payload : List Byte) (s : State) : State :=
  s.serve .stepStart p fun s =>
    withArgs (checkLong stepStartFields payload) s fun vs => stepStart p (arg vs 1) (arg vs 2) (arg vs 3) s

/-- The report that the arguments of WASH SAMPLE carry (R69). -/
def sampleOfArgs (vs : List Nat) : Sample :=
  { interval := arg vs 3, temperature := arg vs 4, flow := arg vs 5, medium := mediumOfCode (arg vs 6) }

def takeWashSample (p : Port) (payload : List Byte) (s : State) : State :=
  s.serve .washSample p fun s =>
    withArgs (checkLong washSampleFields payload) s fun vs =>
      washSample p (arg vs 1) (arg vs 2) (sampleOfArgs vs) s

/-! ### The commands -/

/-- STEP_START (R67). -/
def execStepStart (p : Port) (payload : List Byte) (s : State) : Host.Outcome State Fault Refusal :=
  .next (takeStepStart p payload s)

/-- WASH_SAMPLE (R69). -/
def execWashSample (p : Port) (payload : List Byte) (s : State) : Host.Outcome State Fault Refusal :=
  .next (takeWashSample p payload s)

end Sys2Proof.Machine
end

