-- ==== Sys2Proof/Machine/Filling.lean ====
section
/-! DEFINITION. The fill unit: MAP ARM, FILL BEGIN, FILL VOLUME, FILL RESUME, FILL END, and the line events of an arm
(06, R107 to R129). -/

namespace Sys2Proof.Machine

/-! ### Arms -/

/-- The first of the four conditions of R109 that fails for an arm and a port; none: the arm is equipped for it. -/
def State.notEquipped (s : State) (a : Arm) (p : Port) : Option Nat :=
  if s.armPort a ≠ some p then some 1
  else if (s.boundLine (.ground a)).isNone then some 2
  else if (s.boundLine (.permit a)).isNone then some 3
  else if !s.lock then some 4
  else none

/-- The state with an arm mapped to a port or unmapped (R108). -/
def State.mapArmTo (s : State) (a : Arm) (q : Option Port) : State :=
  { s with armMap := s.armMap.set a q }

/-- The arm is equipped for the port named, if one is (R108, R109). -/
def State.equippedFor (s : State) (a : Arm) (q : Option Port) : Bool :=
  q.any fun p => (s.notEquipped a p).isNone

/-- MAP ARM (R108). -/
def mapArm (a : Arm) (q : Option Port) (s : State) : State × Answer :=
  match s.fillOn a with
  | some (_, c) => (s, refuse .inUse (portCode c.st.holder))
  | none =>
    (s.mapArmTo a q, okWith (beBytes 1 (portCode q) ++ [boolByte ((s.mapArmTo a q).equippedFor a q)]))

/-! ### Beginning a fill -/

/-- The fill limit (R116). -/
def fillLimit (capacity percent : Nat) : Nat := capacity * percent / 100 / 10 * 10

/-- The fill percent of a product (R24, R116). -/
def State.fillPercent (s : State) (product : Nat) : Nat :=
  match s.product? product with
  | some e => e.fillPercent
  | none => Config.unlistedFillPercent product

/-- The fill record of an accepted FILL BEGIN (R115). -/
def State.newFill (s : State) (c : Comp) (a : Arm) (product : Nat) : Fill :=
  { arm := a, product := product, limit := fillLimit c.capacity (s.fillPercent product), delivered := 0 }

/-- A FILL BEGIN that passes every check (R115). -/
def startFill (f : Found) (b : Booking) (pl : Plan) (r : Release) (p : Port) (a : Arm) (product : Nat)
    (s : State) : State × Answer :=
  ((s.setComp f.slot
      (f.comp.withSt (.filling b pl p { r with frozen := true } (s.newFill f.comp a product) noHalts))).driveLatches,
    okWith (beBytes 1 (armNumber a) ++ beBytes 2 product ++ beBytes 2 (s.newFill f.comp a product).limit
      ++ beBytes 2 0 ++ beBytes 3 r.remaining))

/-- The closure-tag refusal, which also revokes the release (R113). -/
def tagMismatch (f : Found) (b : Booking) (pl : Plan) (p : Port) (a : Arm) (s : State) : State × Answer :=
  ((s.setComp f.slot
      ((f.comp.withSt (.washed b pl)).capture
        { kind := .tagMismatch, time := s.clock, port := some p, detail := armNumber a })).driveLatches,
    refuse .tagMismatch 0)

/-- The line bound to OVERFILL for the arm is not known to be dry (R114). -/
def State.notDry (s : State) (a : Arm) : Bool :=
  (s.boundLevel (.overfill a)).any (· != .inactive)

/-- FILL BEGIN's own checks from the fourth on, of a RELEASED compartment (R112 to R115). -/
def fillReleased (f : Found) (b : Booking) (pl : Plan) (r : Release) (p : Port) (a : Arm)
    (product closureTag : Nat) (s : State) : State × Answer :=
  if product ≠ r.target then (s, refuse .productMismatch 0)
  else if closureTag ≠ r.closureTag then tagMismatch f b pl p a s
  else if s.boundLevel (.ground a) ≠ some .active then (s, refuse .unbonded (armNumber a))
  else if s.notDry a then (s, refuse .overfill (armNumber a))
  else startFill f b pl r p a product s

/-- FILL BEGIN (R110 to R115). -/
def fillBegin (p : Port) (tag index : Nat) (a : Arm) (product closureTag : Nat) (s : State) : State × Answer :=
  s.withComp tag index fun f =>
    needsNoHolder s f.comp
      (match s.notEquipped a p with
       | some d => (s, refuse .notEquipped d)
       | none =>
         match s.fillOn a with
         | some (_, c) => (s, { result := .busy, detail := c.index, data := beBytes 2 c.tag })
         | none =>
           match f.comp.st with
           | .released b pl r => fillReleased f b pl r p a product closureTag s
           | _ => (s, stateRefusal f.comp))

/-! ### While loading -/

/-- The delivered count as it is taken: clamped to 65535, then held back to the count stored (R118). -/
def deliveredCount (stored sent : Nat) : Nat := max stored (min sent 65535)

/-- The notes of a delivered count (R118): CLAMPED above 65535, BACKWARD below the count stored. -/
def countNotes (stored sent : Nat) : Nat :=
  noteBits (65535 < sent) false false (min sent 65535 < stored)

/-- The data of an accepted FILL VOLUME (R118, R186). -/
def volumeBytes (notes : Nat) (fl : Fill) (h : HaltSet) : List Byte :=
  beBytes 1 notes ++ beBytes 2 fl.delivered ++ beBytes 2 fl.limit ++ beBytes 2 (fl.limit - fl.delivered)
    ++ beBytes 1 (fillPhaseCode h)

/-- The fill record and halt set after a report (R118). -/
def reported (fl : Fill) (h : HaltSet) (sent : Nat) : Fill × HaltSet :=
  ({ fl with delivered := deliveredCount fl.delivered sent },
    if fl.limit ≤ deliveredCount fl.delivered sent then { h with limit := true } else h)

/-- FILL VOLUME (R118). -/
def fillVolume (p : Port) (tag index sent : Nat) (s : State) : State × Answer :=
  s.withComp tag index fun f =>
    needsHold p s f.comp
      (match f.comp.st with
       | .filling b pl hp r fl h =>
         ((s.setComp f.slot
             (f.comp.withSt (.filling b pl hp r (reported fl h sent).1 (reported fl h sent).2))).driveLatches,
           { result := if fl.limit ≤ deliveredCount fl.delivered sent then .limit else .ok
             detail := 0
             data := volumeBytes (countNotes fl.delivered sent) (reported fl h sent).1 (reported fl h sent).2 })
       | _ => (s, stateRefusal f.comp))

/-- GROUND holds still: it is in the set and the arm's GROUND line is inactive (R122). -/
def State.groundHolds (s : State) (a : Arm) (h : HaltSet) : Bool :=
  h.ground && s.boundLevel (.ground a) == some .inactive

/-- OVERFILL holds still: it is in the set and the arm's OVERFILL line is active (R122). -/
def State.overfillHolds (s : State) (a : Arm) (h : HaltSet) : Bool :=
  h.overfill && s.boundLevel (.overfill a) == some .active

/-- The causes that hold still, as a refused FILL RESUME reports them (R122, R186). Bit 0 and bits 7 to 3, which R186 gives to
nothing, are 0: DESIGN CHOICE, log entry 26. -/
def holdingBytes (ground overfill : Bool) : List Byte :=
  beBytes 1 (2 * ground.toNat + 4 * overfill.toNat)

/-- FILL RESUME (R122). -/
def fillResume (p : Port) (tag index : Nat) (s : State) : State × Answer :=
  s.withComp tag index fun f =>
    needsHold p s f.comp
      (match f.comp.st with
       | .filling b pl hp r fl h =>
         if h.isEmpty then (s, stateRefusal f.comp)
         else if h.limit then (s, refuse .limitRefused (armNumber fl.arm))
         else if s.groundHolds fl.arm h then
           (s, { result := .unbonded, detail := armNumber fl.arm,
                 data := holdingBytes true (s.overfillHolds fl.arm h) })
         else if s.overfillHolds fl.arm h then
           (s, { result := .overfill, detail := armNumber fl.arm, data := holdingBytes false true })
         else
           ((s.setComp f.slot (f.comp.withSt (.filling b pl hp r fl noHalts))).driveLatches,
             okWith (beBytes 2 fl.delivered ++ beBytes 2 (fl.limit - fl.delivered)))
       | _ => (s, stateRefusal f.comp))

/-! ### Ending a fill -/

/-- The compartment after FILL END with a final quantity: LOADED, and an OVER_LIMIT incident where the quantity is above
the fill limit (R123, R124). -/
def State.endedFill (s : State) (c : Comp) (b : Booking) (hp : Port) (fl : Fill) (final : Nat) : Comp :=
  if fl.limit < final then
    (s.loadComp c b fl final false).capture
      { kind := .overLimit, time := s.clock, port := some hp, detail := armNumber fl.arm }
  else s.loadComp c b fl final false

/-- FILL END (R123, R124). -/
def fillEnd (p : Port) (tag index sent : Nat) (s : State) : State × Answer :=
  s.withComp tag index fun f =>
    needsHold p s f.comp
      (match f.comp.st with
       | .filling b _ hp _ fl _ =>
         ((s.setComp f.slot
             (s.endedFill f.comp b hp fl (deliveredCount fl.delivered sent))).driveLatches,
           okWith (beBytes 1 (countNotes fl.delivered sent) ++ beBytes 1 8
             ++ beBytes 2 (deliveredCount fl.delivered sent) ++ beBytes 2 fl.limit
             ++ [boolByte (fl.limit < deliveredCount fl.delivered sent)]))
       | _ => (s, stateRefusal f.comp))

/-! ### Line events of an arm (R119 to R121) -/

/-- The fill on an arm takes a halt cause and an incident; an arm without a fill takes nothing (R119 to R121). -/
def State.haltArm (s : State) (a : Arm) (cause : HaltSet → HaltSet) (kind : IncidentKind) : State :=
  match s.fillOn a with
  | some (k, c) =>
    match c.st with
    | .filling b pl hp r fl h =>
      (s.setComp k
        ((c.withSt (.filling b pl hp r fl (cause h))).capture
          { kind := kind, time := s.clock, port := some hp, detail := armNumber a })).driveLatches
    | _ => s
  | none => s

/-- GROUND added to a halt set (R119). -/
def HaltSet.addGround (h : HaltSet) : HaltSet := { h with ground := true }

/-- OVERFILL added to a halt set (R120). -/
def HaltSet.addOverfill (h : HaltSet) : HaltSet := { h with overfill := true }

/-- The fill unit takes a level event of a function instance, with its direction (R119 to R121, R145). Restoring events
leave the fill as it stands. -/
def State.levelEvent (s : State) (fn : Func) (toActive : Bool) : State :=
  match fn with
  | .ground a => if toActive then s else s.haltArm a HaltSet.addGround .groundLost
  | .overfill a => if toActive then s.haltArm a HaltSet.addOverfill .overfillWet else s
  | .permit _ => s
  | .washEnable _ => s
  | .alarm => s
  | .rinseProbe _ => s

/-! ### The requests as they are taken from a port -/

def takeMapArm (p : Port) (b1 b2 : Byte) (s : State) : State :=
  s.serve .mapArm p fun s =>
    withArgs (checkShort (mapArmFields s) b1 b2) s fun vs =>
      mapArm (armOfNumber (arg vs 1)) (stationPort (arg vs 2)) s

def takeFillBegin (p : Port) (payload : List Byte) (s : State) : State :=
  s.serve .fillBegin p fun s =>
    withArgs (checkLong fillBeginFields payload) s fun vs =>
      fillBegin p (arg vs 1) (arg vs 2) (armOfNumber (arg vs 3)) (arg vs 4) (arg vs 5) s

def takeFillVolume (p : Port) (payload : List Byte) (s : State) : State :=
  s.serve .fillVolume p fun s =>
    withArgs (checkLong fillCountFields payload) s fun vs => fillVolume p (arg vs 1) (arg vs 2) (arg vs 3) s

def takeFillResume (p : Port) (payload : List Byte) (s : State) : State :=
  s.serve .fillResume p fun s =>
    withArgs (checkLong addressFields payload) s fun vs => fillResume p (arg vs 1) (arg vs 2) s

def takeFillEnd (p : Port) (payload : List Byte) (s : State) : State :=
  s.serve .fillEnd p fun s =>
    withArgs (checkLong fillCountFields payload) s fun vs => fillEnd p (arg vs 1) (arg vs 2) (arg vs 3) s

/-! ### The commands -/

/-- MAP_ARM (R108). -/
def execMapArm (p : Port) (b1 b2 : Byte) (s : State) : Host.Outcome State Fault Refusal :=
  .next (takeMapArm p b1 b2 s)

/-- FILL_BEGIN (R115). -/
def execFillBegin (p : Port) (payload : List Byte) (s : State) : Host.Outcome State Fault Refusal :=
  .next (takeFillBegin p payload s)

/-- FILL_VOLUME (R118). -/
def execFillVolume (p : Port) (payload : List Byte) (s : State) : Host.Outcome State Fault Refusal :=
  .next (takeFillVolume p payload s)

/-- FILL_RESUME (R122). -/
def execFillResume (p : Port) (payload : List Byte) (s : State) : Host.Outcome State Fault Refusal :=
  .next (takeFillResume p payload s)

/-- FILL_END (R123). -/
def execFillEnd (p : Port) (payload : List Byte) (s : State) : Host.Outcome State Fault Refusal :=
  .next (takeFillEnd p payload s)

end Sys2Proof.Machine
end

