-- ==== Sys2Proof/Machine/Checker.lean ====
section
/-! DEFINITION. The request checker's own requests: roles, access maps, the status read, the walk of the compartment
table, and the reply limit (09, R158 to R172). -/

namespace Sys2Proof.Machine

/-- The work in hand that keeps a port from a new role: 1 it holds a compartment, 2 it is docked, 3 it has an arm (R160). -/
def State.workInHand (s : State) (q : Port) : Option Nat :=
  if !(s.heldBy q).isEmpty then some 1
  else if (s.dockedTanker q).isSome then some 2
  else if s.armMap.toList.any (· == some q) then some 3
  else none

/-- SET PORT ROLE (R160, R161). -/
def setPortRole (q : Port) (role : Role) (caps : Caps) (s : State) : State × Answer :=
  match s.workInHand q with
  | some d => (s, refuse .inUse d)
  | none =>
    (s.setPort q { s.port q with role := role, caps := caps },
      okWith (beBytes 1 (roleCode role) ++ beBytes 1 (capsCode caps) ++ beBytes 1 (roleCode (s.role q))))

/-- The requests that a map of sixteen bytes denies: byte k, counted from 0, holds codes 8k to 8k + 7, least significant
bit first; bits whose code names no request are cleared (R162, R183). `v` is the map read high byte first. -/
def mapOf (v : Nat) : List ReqName :=
  ReqName.all.filter fun r => v.testBit (8 * (15 - r.code / 8) + r.code % 8)

/-- SET ACCESS MAP (R162). -/
def setAccessMap (q : Port) (denied : List ReqName) (s : State) : State × Answer :=
  (s.setPort q { s.port q with denied := denied }, okWith (beBytes 1 denied.length))

/-- The number taken as a reply limit: at least 96 and at most 240 (R171). -/
def clampLimit (n : Nat) : Nat := max 96 (min n 240)

/-- SET REPLY LIMIT (R171). -/
def setReplyLimit (p : Port) (n : Nat) (s : State) : State × Answer :=
  (s.setPort p { s.port p with limit := clampLimit n }, okWith (beBytes 1 (clampLimit n)))

/-- The number of compartment records in the state of a code (R168). -/
def State.countState (s : State) (code : Nat) : Nat :=
  s.records.countP fun c => stateCode c.st == code

/-- The number of tanker records (R168). -/
def State.tankerCount (s : State) : Nat := s.tankers.toList.countP (·.isSome)

/-- The data of READ STATUS (R168, R186). -/
def statusBytes (p : Port) (s : State) : List Byte :=
  beBytes 1 (portLetter p) ++ beBytes 1 (roleCode (s.role p)) ++ beBytes 1 (capsCode (s.capsOf p))
    ++ beBytes 1 (s.port p).limit ++ beBytes 4 s.clock.toNat ++ beBytes 1 s.tankerCount
    ++ [1, 2, 3, 4, 5, 6, 7, 8, 9].flatMap (fun n => beBytes 1 (s.countState n))
    ++ beBytes 1 s.queue.length ++ beBytes 1 s.fullSlots ++ [boolByte s.lock]

/-- READ STATUS (R168). -/
def readStatus (p : Port) (s : State) : State × Answer := (s, okWith (statusBytes p s))

/-! ### The walk (R169, R170) -/

/-- The slots a walk examines, from the cursor up to 191 or down to 0 (R169). -/
def walkSlots (cursor : Nat) (up : Bool) : List Slot :=
  if up then (List.finRange 192).drop cursor else ((List.finRange 192).take (cursor + 1)).reverse

/-- The walk: the summarised slots with their records, and the slot at which it stopped for want of room; none when it ran
off the table (R169). `room` is the number of summaries that may still be given. -/
def State.walk (s : State) : List Slot → Nat → List (Slot × Comp) × Option Slot
  | [], _ => ([], none)
  | k :: ks, room =>
    match s.compAt k with
    | none => s.walk ks room
    | some c =>
      match room with
      | 0 => ([], some k)
      | n + 1 => ((k, c) :: (s.walk ks n).1, (s.walk ks n).2)

/-- The number of summaries a reply may give: the count asked for, and as many twelve-byte summaries as fit the reply limit
after eight bytes (R169, R170). -/
def walkRoom (s : State) (p : Port) (count : Nat) : Nat :=
  min count (((s.port p).limit - 8) / 12)

/-- The twelve bytes of a summary (R170, R186). Bits 7 to 2 of the last, which R186 gives to nothing, are 0: DESIGN CHOICE, log
entry 26. -/
def summaryBytes (x : Slot × Comp) : List Byte :=
  beBytes 1 x.1.val ++ beBytes 2 x.2.tag ++ beBytes 1 x.2.index ++ beBytes 1 (stateCode x.2.st)
    ++ beBytes 1 (phaseCode x.2.st) ++ beBytes 1 (portCode x.2.st.holder)
    ++ (match x.2.st.booking with
        | some b => beBytes 2 b.target ++ beBytes 1 (priorityCode b.priority)
        | none => [0, 0, 0])
    ++ beBytes 1 (16 * x.2.performed + x.2.faults)
    ++ beBytes 1 (x.2.incident.isSome.toNat + 2 * x.2.overflow.toNat)

/-- The state code of the cursor slot, 0 when it is empty (R170). -/
def State.cursorState (s : State) (cursor : Nat) : Nat :=
  match s.compAt (Fin.ofNat 192 cursor) with
  | some c => stateCode c.st
  | none => 0

/-- The data of READ RECORDS for a walk's outcome (R170, R186). -/
def walkBytes (s : State) (cursor count : Nat) (up : Bool) (w : List (Slot × Comp) × Option Slot) : List Byte :=
  beBytes 1 (s.cursorState cursor)
    ++ beBytes 1 (match w.2 with
        | some k => k.val
        | none => if up then 0 else 191)
    ++ beBytes 1 (count - w.1.length) ++ [boolByte w.2.isNone] ++ beBytes 1 w.1.length
    ++ w.1.flatMap summaryBytes

/-- READ RECORDS (R169, R170). -/
def readRecords (p : Port) (cursor count : Nat) (up : Bool) (s : State) : State × Answer :=
  (s, okWith (walkBytes s cursor count up (s.walk (walkSlots cursor up) (walkRoom s p count))))

/-! ### The requests as they are taken from a port -/

/-- The port that a letter code in range names; check 3 has refused every other code (R160, R162). -/
def portOfArg (n : Nat) : Port := (stationPort n).getD .B

/-- The role that a code in range names; check 3 has refused every other code (R160). -/
def roleOfArg (n : Nat) : Role := (roleOfCode n).getD .none

def takeSetPortRole (p : Port) (payload : List Byte) (s : State) : State :=
  s.serve .setPortRole p fun s =>
    withArgs (checkLong setPortRoleFields payload) s fun vs =>
      setPortRole (portOfArg (arg vs 1)) (roleOfArg (arg vs 2)) (capsOfCode (arg vs 3)) s

def takeSetAccessMap (p : Port) (payload : List Byte) (s : State) : State :=
  s.serve .setAccessMap p fun s =>
    withArgs (checkPayload setAccessMapFields 2 payload) s fun vs =>
      setAccessMap (portOfArg (arg vs 1)) (mapOf (arg vs 2)) s

def takeSetReplyLimit (p : Port) (b1 b2 : Byte) (s : State) : State :=
  s.serve .setReplyLimit p (setReplyLimit p (beValue [b1, b2]))

def takeReadStatus (p : Port) (_b1 _b2 : Byte) (s : State) : State :=
  s.serve .readStatus p (readStatus p)

def takeReadRecords (p : Port) (payload : List Byte) (s : State) : State :=
  s.serve .readRecords p fun s =>
    withArgs (checkLong readRecordsFields payload) s fun vs =>
      readRecords p (arg vs 1) (arg vs 2) (arg vs 3 == 0) s

/-! ### The commands -/

/-- SET_PORT_ROLE (R160). -/
def execSetPortRole (p : Port) (payload : List Byte) (s : State) : Host.Outcome State Fault Refusal :=
  .next (takeSetPortRole p payload s)

/-- SET_ACCESS_MAP (R162). -/
def execSetAccessMap (p : Port) (payload : List Byte) (s : State) : Host.Outcome State Fault Refusal :=
  .next (takeSetAccessMap p payload s)

/-- SET_REPLY_LIMIT (R171). -/
def execSetReplyLimit (p : Port) (b1 b2 : Byte) (s : State) : Host.Outcome State Fault Refusal :=
  .next (takeSetReplyLimit p b1 b2 s)

/-- READ_STATUS (R168). -/
def execReadStatus (p : Port) (b1 b2 : Byte) (s : State) : Host.Outcome State Fault Refusal :=
  .next (takeReadStatus p b1 b2 s)

/-- READ_RECORDS (R169). -/
def execReadRecords (p : Port) (payload : List Byte) (s : State) : Host.Outcome State Fault Refusal :=
  .next (takeReadRecords p payload s)

end Sys2Proof.Machine
end

