-- ==== Sys2Proof/Machine/Inspection.lean ====
section
/-! DEFINITION. The inspection unit: INSPECT BEGIN, INSPECT RESULT, INSPECT CANCEL, SET PROBE CALIBRATION, and the
conversion of a probe sample (05, R88 to R101; R157). -/

namespace Sys2Proof.Machine

/-! ### The probe -/

/-- The conductivity a raw value converts to with the calibration held (R94). -/
def State.convert (s : State) (raw : Nat) : Nat :=
  (min (max ((raw * s.scale / 64 : Nat) + s.offset) 0) 20000).toNat

/-- A raw sample taken by the probe record of a port, if there is one (R94). -/
def State.probeSample (s : State) (p : Port) (raw : Nat) : State :=
  s.setProbe p ((s.probe p).map fun _ =>
    { reading := some { raw := raw, conductivity := s.convert raw }, pendingMark := false })

/-- A line is bound to RINSE_PROBE for the port (R93). -/
def State.probeBound (s : State) (p : Port) : Bool := (s.boundLine (.rinseProbe p)).isSome

/-- The reading of the port's probe record, where it is not settling (R95). -/
def State.settledReading (s : State) (p : Port) : Option Nat :=
  match s.probe p with
  | some x => if x.pendingMark then none else x.reading.map (·.conductivity)
  | none => none

/-- The reason of a SETTLING refusal: 1 the pending mark is set, 2 no reading since the binding (R95; log entry 10). -/
def State.settlingDetail (s : State) (p : Port) : Nat :=
  if (s.probe p).any (·.pendingMark) then 1 else 2

/-- SET PROBE CALIBRATION (R157). -/
def setProbeCalibration (scale : Nat) (offset : Int) (s : State) : State × Answer :=
  ({ s with
      scale := scale
      offset := offset
      probes := s.probes.map fun x => x.map fun r => { r with pendingMark := true } },
    okWith (beBytes 2 scale ++ signedBytes offset
      ++ beBytes 1 (stationPorts.countP fun p => (s.probe p).isSome)))

/-! ### Beginning and cancelling -/

/-- The probe byte of INSPECT BEGIN: bit 0 a line is bound, bit 1 its record is ready (R90, R186). Bits 7
to 2, which R186 gives to nothing, are 0: DESIGN CHOICE, log entry 26. -/
def State.probeByte (s : State) (p : Port) : Nat :=
  if s.probeBound p then 1 + 2 * (s.settledReading p).isSome.toNat else 0

/-- The data of an accepted INSPECT BEGIN (R90, R186). -/
def beginBytes (s : State) (p : Port) (c : Comp) (b : Booking) (pl : Plan) : List Byte :=
  beBytes 2 b.target ++ beBytes 1 b.cls.val ++ beBytes 2 (s.classLimit b.cls).conductivity
    ++ beBytes 1 (s.classLimit b.cls).validityHours ++ beBytes 1 c.performed ++ [boolByte pl.foodBay]
    ++ beBytes 1 (s.probeByte p)

/-- INSPECT BEGIN (R89, R90). -/
def inspectBegin (p : Port) (tag index : Nat) (s : State) : State × Answer :=
  s.withComp tag index fun f =>
    needsNoHolder s f.comp
      (match f.comp.st with
       | .washed b pl =>
         (s.setComp f.slot (f.comp.withSt (.inspecting b pl p)), okWith (beginBytes s p f.comp b pl))
       | _ => (s, stateRefusal f.comp))

/-- INSPECT CANCEL (R91). -/
def inspectCancel (p : Port) (tag index : Nat) (s : State) : State × Answer :=
  s.withComp tag index fun f =>
    needsHold p s f.comp
      (match f.comp.st with
       | .inspecting b pl _ => (s.setComp f.slot (f.comp.withSt (.washed b pl)), okWith (beBytes 1 4))
       | _ => (s, stateRefusal f.comp))

/-! ### Deciding a result -/

/-- The conductivity that decides, and its source: the probe's where one is bound, else the reported one after its clamp;
none where the probe record is settling (R92, R93). -/
def State.deciding (s : State) (p : Port) (reported : Nat) : Option Reading :=
  if s.probeBound p then (s.settledReading p).map fun c => { conductivity := c, source := .probe }
  else some { conductivity := min reported 20000, source := .reported }

/-- The release a pass grants (R97). -/
def State.grant (s : State) (c : Comp) (b : Booking) (pl : Plan) (r : Reading) (closureTag : Nat) : Release :=
  { target := b.target, performed := c.performed, foodBay := pl.foodBay, conductivity := r.conductivity,
    closureTag := closureTag, time := s.clock, remaining := (s.classLimit b.cls).validityHours * 3600,
    frozen := false }

/-- The plan restarted after a fail (R98). -/
def Plan.restarted (pl : Plan) : Plan :=
  { pl with index := 1, dose := 0, active := 0, silence := 0, mismatch := 0, foodBay := true }

/-- The data of a decided INSPECT RESULT before its last part (R101, R186). Bits 7 to 4 of its notes are 0: DESIGN CHOICE, log
entry 26. -/
def resultBytes (s : State) (verdict : Nat) (reported : Nat) (b : Booking) (r : Reading) (state faults : Nat) :
    List Byte :=
  beBytes 1 verdict ++ beBytes 1 (if 20000 < reported then 1 else 0) ++ beBytes 2 r.conductivity
    ++ beBytes 1 (sourceCode r.source) ++ beBytes 2 (s.classLimit b.cls).conductivity ++ beBytes 1 state
    ++ beBytes 1 faults

/-- A pass (R97). The validity countdown starts here, so no earlier advance is owed (log entry 2). -/
def inspectionPass (f : Found) (b : Booking) (pl : Plan) (r : Reading) (reported closureTag : Nat)
    (s : State) : State × Answer :=
  (s.setComp f.slot
      { f.comp with
        reading := some r
        st := .released b pl (s.grant f.comp b pl r closureTag)
        advanceDue := false },
    okWith (resultBytes s 1 reported b r 6 f.comp.faults ++ beBytes 4 s.clock.toNat
      ++ beBytes 3 ((s.classLimit b.cls).validityHours * 3600)))

/-- A fail that sends the compartment back to be washed again (R98). -/
def rewash (f : Found) (b : Booking) (pl : Plan) (r : Reading) (reported : Nat) (s : State) : State × Answer :=
  let c : Comp := { f.comp with reading := some r, faults := f.comp.faults + 1, performed := 0 }
  let s' := s.enqueueTail f.slot c { b with priority := .urgent } pl.restarted
  (s', okWith (resultBytes s 2 reported b r 2 (f.comp.faults + 1) ++ beBytes 1 (s'.position c.entry)))

/-- A fail of a level-0 plan (R99). -/
def levelZeroFail (f : Found) (b : Booking) (pl : Plan) (r : Reading) (reported : Nat) (s : State) : State × Answer :=
  (s.setComp f.slot
      { f.comp with reading := some r, faults := f.comp.faults + 1, st := .washed b pl },
    okWith (resultBytes s 2 reported b r 4 (f.comp.faults + 1) ++ beBytes 1 0))

/-- A fail that brings the fault count to 3 (R100). -/
def blockByInspection (f : Found) (b : Booking) (pl : Plan) (h : Port) (r : Reading) (reported : Nat)
    (s : State) : State × Answer :=
  ((s.setComp f.slot
      (({ f.comp with
          reading := some r
          faults := Config.faultLimit
          performed := 0
          st := .blockedFaults b (some pl) } : Comp).capture
        { kind := .blocked, time := s.clock, port := some h, detail := 0 })).driveLatches,
    okWith (resultBytes s 2 reported b r 9 Config.faultLimit ++ beBytes 1 0))

/-- A result that has passed its checks is decided (R96). -/
def decideResult (f : Found) (b : Booking) (pl : Plan) (h : Port) (r : Reading) (pass : Bool)
    (reported closureTag : Nat) (s : State) : State × Answer :=
  if pass && r.conductivity ≤ (s.classLimit b.cls).conductivity then inspectionPass f b pl r reported closureTag s
  else if Config.faultLimit ≤ f.comp.faults + 1 then blockByInspection f b pl h r reported s
  else if pl.steps.isEmpty then levelZeroFail f b pl r reported s
  else rewash f b pl r reported s

/-- INSPECT RESULT (R92 to R101). -/
def inspectResult (p : Port) (tag index : Nat) (pass : Bool) (reported closureTag : Nat) (s : State) :
    State × Answer :=
  s.withComp tag index fun f =>
    needsHold p s f.comp
      (match f.comp.st with
       | .inspecting b pl h =>
         match s.deciding p reported with
         | none => (s, refuse .settling (s.settlingDetail p))
         | some r => decideResult f b pl h r pass reported closureTag s
       | _ => (s, stateRefusal f.comp))

/-! ### The requests as they are taken from a port -/

def takeInspectBegin (p : Port) (payload : List Byte) (s : State) : State :=
  s.serve .inspectBegin p fun s =>
    withArgs (checkLong addressFields payload) s fun vs => inspectBegin p (arg vs 1) (arg vs 2) s

def takeInspectResult (p : Port) (payload : List Byte) (s : State) : State :=
  s.serve .inspectResult p fun s =>
    withArgs (checkLong inspectResultFields payload) s fun vs =>
      inspectResult p (arg vs 1) (arg vs 2) (arg vs 3 == 1) (arg vs 4) (arg vs 5) s

def takeInspectCancel (p : Port) (payload : List Byte) (s : State) : State :=
  s.serve .inspectCancel p fun s =>
    withArgs (checkLong addressFields payload) s fun vs => inspectCancel p (arg vs 1) (arg vs 2) s

def takeSetProbeCalibration (p : Port) (payload : List Byte) (s : State) : State :=
  s.serve .setProbeCalibration p fun s =>
    withArgs (checkLong setProbeCalibrationFields payload) s fun vs =>
      setProbeCalibration (arg vs 1) (signedValue (arg vs 2)) s

/-! ### The commands -/

/-- INSPECT_BEGIN (R90). -/
def execInspectBegin (p : Port) (payload : List Byte) (s : State) : Host.Outcome State Fault Refusal :=
  .next (takeInspectBegin p payload s)

/-- INSPECT_RESULT (R96). -/
def execInspectResult (p : Port) (payload : List Byte) (s : State) : Host.Outcome State Fault Refusal :=
  .next (takeInspectResult p payload s)

/-- INSPECT_CANCEL (R91). -/
def execInspectCancel (p : Port) (payload : List Byte) (s : State) : Host.Outcome State Fault Refusal :=
  .next (takeInspectCancel p payload s)

/-- SET_PROBE_CALIBRATION (R157). -/
def execSetProbeCalibration (p : Port) (payload : List Byte) (s : State) : Host.Outcome State Fault Refusal :=
  .next (takeSetProbeCalibration p payload s)

end Sys2Proof.Machine
end

