-- ==== Sys2Proof/Machine/FieldLines.lean ====
section
/-! DEFINITION. The field line block: samples, conversions, CONFIGURE LINE, LOCK LINES, SET LINE, READ LINES (08, R140 to
R156). -/

namespace Sys2Proof.Machine

/-! ### Samples and conversions -/

/-- The sampled level: ACTIVE when the electrical level equals the polarity (R143). -/
def sampledLevel (pol : Polarity) (high : Bool) : Level :=
  match pol with
  | .high => if high then .active else .inactive
  | .low => if high then .inactive else .active

/-- A sample of a settled INPUT_FILTERED line (R144): the line, and the direction of a level event if it makes one. -/
def Line.filterSample (x : Line) (lv : Level) : Line × Option Bool :=
  if lv = x.level then ({ x with run := 0 }, none)
  else if x.depth ≤ x.run + 1 then ({ x with level := lv, run := 0 }, some (lv == .active))
  else ({ x with run := x.run + 1 }, none)

/-- A sample of a settled INPUT line (R143). -/
def Line.plainSample (x : Line) (lv : Level) : Line × Option Bool :=
  if lv = x.level then (x, none) else ({ x with level := lv }, some (lv == .active))

/-- A sample at a level: an UNSETTLED input is seeded without an event (R143); a line that is no input is not sampled
(R141). -/
def Line.sample (x : Line) (lv : Level) : Line × Option Bool :=
  match x.mode with
  | .input => if x.level = .unsettled then ({ x with level := lv, run := 0 }, none) else x.plainSample lv
  | .inputFiltered =>
    if x.level = .unsettled then ({ x with level := lv, run := 0 }, none) else x.filterSample lv
  | .outputPushPull => (x, none)
  | .outputOpen => (x, none)
  | .analog => (x, none)

/-- A sample of a line, and the hand-over of the level event it may make (R143, R145). -/
def sampleLine (l : LineNo) (high : Bool) (s : State) : State :=
  match ((s.line l).sample (sampledLevel (s.line l).polarity high)).2, (s.line l).func with
  | some dir, some fn =>
    (s.setLine l ((s.line l).sample (sampledLevel (s.line l).polarity high)).1).levelEvent fn dir
  | _, _ => s.setLine l ((s.line l).sample (sampledLevel (s.line l).polarity high)).1

/-- A conversion of an ANALOG line, and the hand-over to the probe record it is bound to (R147). A line in another mode is
not converted. -/
def convertLine (l : LineNo) (raw : Nat) (s : State) : State :=
  if (s.line l).mode = .analog then
    match (s.line l).func with
    | some (.rinseProbe p) => (s.setLine l { s.line l with raw := some raw }).probeSample p raw
    | _ => s.setLine l { s.line l with raw := some raw }
  else s

/-! ### Configuring -/

/-- The configuration of a line (R140). -/
structure LineConfig where
  mode : LineMode
  polarity : Polarity
  depth : Nat
  func : Option Func
  deriving DecidableEq, Repr

/-- The mode suits the function (R151). -/
def modeSuits (m : LineMode) : Func → Bool
  | .ground _ => m == .input || m == .inputFiltered
  | .overfill _ => m == .input || m == .inputFiltered
  | .permit _ => m == .outputPushPull || m == .outputOpen
  | .washEnable _ => m == .outputPushPull || m == .outputOpen
  | .alarm => m == .outputPushPull || m == .outputOpen
  | .rinseProbe _ => m == .analog

/-- The depth suits the mode: 2, 4 or 8 in INPUT_FILTERED and 0 in every other (R140, R152). -/
def depthSuits (m : LineMode) (depth : Nat) : Bool :=
  if m = .inputFiltered then depth != 0 else depth == 0

/-- The port whose asserted WASH_ENABLE demand forbids a change of the line (R152). -/
def State.runningBay (s : State) (l : LineNo) : Option Port :=
  match (s.line l).func with
  | some (.washEnable p) => if s.washEnableDemand p then some p else none
  | _ => none

/-- Another line than `l` that holds the function instance (R152). -/
def State.otherLine (s : State) (l : LineNo) (fn : Option Func) : Option LineNo :=
  match fn with
  | some f => (List.finRange 24).find? fun m => m != l && (s.line m).func == some f
  | none => none

/-- CONFIGURE LINE's own checks (R152); none: it is accepted. -/
def State.configRefusal (s : State) (l : LineNo) (cfg : LineConfig) : Option Answer :=
  if s.lock then some (refuse .locked 0)
  else if cfg.mode = .analog ∧ l.val < 16 then some (refuse .mode 1)
  else if cfg.func.any (fun f => !modeSuits cfg.mode f) then some (refuse .mode 2)
  else if !depthSuits cfg.mode cfg.depth then some (refuse .mode 3)
  else
    match s.runningBay l with
    | some p => some (refuse .inUse (portLetter p))
    | none =>
      match s.otherLine l cfg.func with
      | some m => some (refuse .inUse m.val)
      | none => none

/-- The latch a newly configured line takes: the demand of its instance, or DEASSERTED (R153). -/
def State.newLatch (s : State) (fn : Option Func) : Bool :=
  match fn with
  | some f =>
    match s.demand f with
    | some d => d
    | none => false
  | none => false

/-- The line a configuration makes (R153). DESIGN CHOICE, log entry 13: the level of a line that is no input is UNSETTLED,
the run count of one that is not INPUT_FILTERED 0, and the raw value of one that is not ANALOG absent. -/
def State.configured (s : State) (cfg : LineConfig) : Line :=
  { mode := cfg.mode, polarity := cfg.polarity, depth := cfg.depth, func := cfg.func, level := .unsettled, run := 0,
    latch := s.newLatch cfg.func, raw := none }

/-- The probe record of the binding that ends is removed (R95, R153). -/
def State.endBinding (s : State) (fn : Option Func) : State :=
  match fn with
  | some (.rinseProbe p) => s.setProbe p none
  | _ => s

/-- A probe record is made for a new RINSE_PROBE binding (R88, R153). -/
def State.beginBinding (s : State) (fn : Option Func) : State :=
  match fn with
  | some (.rinseProbe p) => s.setProbe p (some { reading := none, pendingMark := false })
  | _ => s

/-- The first byte of a READ LINES line without its level bits (R186). -/
def modeByte (x : Line) : Nat :=
  lineModeCode x.mode + 8 * polarityCode x.polarity
    + 16 * (if x.depth = 2 then 1 else if x.depth = 4 then 2 else if x.depth = 8 then 3 else 0)

/-- The second byte of a READ LINES line without its bit 7 (R186). R186 gives its bit 3 to nothing: it is 0: DESIGN CHOICE,
log entry 26. -/
def funcByte (x : Line) : Nat :=
  match x.func with
  | some f => funcCode f + 16 * funcNibble f
  | none => 0

/-- The function code and instance a line was bound to, in the form CONFIGURE LINE carries them (R153). -/
def bindingBytes (fn : Option Func) : List Byte :=
  match fn with
  | some f => beBytes 1 (funcCode f) ++ beBytes 1 (funcInstance f)
  | none => [0, 0]

/-- CONFIGURE LINE (R152, R153). -/
def configureLine (l : LineNo) (cfg : LineConfig) (s : State) : State × Answer :=
  match s.configRefusal l cfg with
  | some a => (s, a)
  | none =>
    (((s.endBinding (s.line l).func).setLine l (s.configured cfg)).beginBinding cfg.func,
      okWith (beBytes 1 (modeByte (s.configured cfg)) ++ beBytes 1 (funcByte (s.configured cfg))
        ++ bindingBytes (s.line l).func ++ [boolByte (s.configured cfg).latch]))

/-- LOCK LINES (R155). -/
def lockLines (s : State) : State × Answer :=
  ({ s with lock := true }, okWith [boolByte s.lock])

/-- The line is an output (R150). -/
def isOutput (m : LineMode) : Bool := m == .outputPushPull || m == .outputOpen

/-- SET LINE (R150). -/
def setLine (l : LineNo) (assert : Bool) (s : State) : State × Answer :=
  if !isOutput (s.line l).mode then (s, refuse .mode (lineModeCode (s.line l).mode))
  else
    match (s.line l).func with
    | some f => (s, refuse .inUse (funcCode f))
    | none => (s.setLine l { s.line l with latch := assert }, okWith [boolByte assert])

/-! ### Reading the lines (R156, R186) -/

/-- The level of a line as READ LINES reports it (R186). DESIGN CHOICE, log entry 25: 0 for an ANALOG line that has no raw
value yet, beside the set bit 7 of its second byte. -/
def levelCode (x : Line) : Nat :=
  match x.mode with
  | .analog => x.raw.getD 0
  | .outputPushPull => x.latch.toNat
  | .outputOpen => x.latch.toNat
  | .input =>
    match x.level with
    | .inactive => 0
    | .active => 1
    | .unsettled => 2
  | .inputFiltered =>
    match x.level with
    | .inactive => 0
    | .active => 1
    | .unsettled => 2

/-- Bit 7 of the second byte: an ANALOG line has no raw value yet (R186). -/
def noRawBit (x : Line) : Nat :=
  if x.mode = .analog ∧ x.raw.isNone then 128 else 0

/-- The three bytes of a line (R186). -/
def lineBytes (x : Line) : List Byte :=
  beBytes 1 (modeByte x + 64 * (levelCode x / 256)) ++ beBytes 1 (funcByte x + noRawBit x)
    ++ beBytes 1 (levelCode x % 256)

/-- READ LINES (R156). -/
def readLines (s : State) : State × Answer :=
  (s, okWith (boolByte s.lock :: s.lines.toList.flatMap lineBytes))

/-! ### The requests as they are taken from a port -/

/-- The configuration that the arguments of CONFIGURE LINE carry (R152). -/
def configOfArgs (vs : List Nat) : LineConfig :=
  { mode := lineModeOfCode (arg vs 2), polarity := polarityOfCode (arg vs 3), depth := arg vs 4,
    func := funcOfCode (arg vs 5) (arg vs 6) }

def takeConfigureLine (p : Port) (payload : List Byte) (s : State) : State :=
  s.serve .configureLine p fun s =>
    withArgs (checkLong configureLineFields payload) s fun vs =>
      configureLine (Fin.ofNat 24 (arg vs 1)) (configOfArgs vs) s

def takeLockLines (p : Port) (_b1 _b2 : Byte) (s : State) : State :=
  s.serve .lockLines p lockLines

def takeSetLine (p : Port) (b1 b2 : Byte) (s : State) : State :=
  s.serve .setLine p fun s =>
    withArgs (checkShort setLineFields b1 b2) s fun vs => setLine (Fin.ofNat 24 (arg vs 1)) (arg vs 2 == 1) s

def takeReadLines (p : Port) (_b1 _b2 : Byte) (s : State) : State :=
  s.serve .readLines p readLines

/-! ### The commands -/

/-- INPUT_SAMPLE (R143). -/
def execInputSample (l : LineNo) (high : Bool) (s : State) : Host.Outcome State Fault Refusal :=
  .next (sampleLine l high s)

/-- ANALOG_CONVERSION (R147). -/
def execAnalogConversion (l : LineNo) (raw : BitVec 10) (s : State) : Host.Outcome State Fault Refusal :=
  .next (convertLine l raw.toNat s)

/-- CONFIGURE_LINE (R152). -/
def execConfigureLine (p : Port) (payload : List Byte) (s : State) : Host.Outcome State Fault Refusal :=
  .next (takeConfigureLine p payload s)

/-- LOCK_LINES (R155). -/
def execLockLines (p : Port) (b1 b2 : Byte) (s : State) : Host.Outcome State Fault Refusal :=
  .next (takeLockLines p b1 b2 s)

/-- SET_LINE (R150). -/
def execSetLine (p : Port) (b1 b2 : Byte) (s : State) : Host.Outcome State Fault Refusal :=
  .next (takeSetLine p b1 b2 s)

/-- READ_LINES (R156). -/
def execReadLines (p : Port) (b1 b2 : Byte) (s : State) : Host.Outcome State Fault Refusal :=
  .next (takeReadLines p b1 b2 s)

end Sys2Proof.Machine
end

