-- ==== Sys2Proof/Machine/WashQueue.lean ====
section
/-! DEFINITION. The wash queue and docking arbiter: NEXT WORK, GIVE BACK, UNDOCK, READ QUEUE (03, R47 to R63). -/

namespace Sys2Proof.Machine

/-- What NEXT WORK hands out: the compartment found, its booking and its plan. -/
structure Work where
  found : Found
  booking : Booking
  plan : Plan
  deriving DecidableEq, Repr

/-- The work an entry offers a bay, where it is eligible: by docking and by capability (R56). `dock` is the tanker docked
to the bay. -/
def State.eligible (s : State) (p : Port) (dock : Option (TankerSlot × Tanker)) (e : Entry) : Option Work :=
  match s.find e.tag e.index with
  | none => none
  | some f =>
    match f.comp.st with
    | .queued b pl =>
      if (match dock with
          | some (t, _) => f.tslot == t
          | none => f.tanker.docked.isNone) && pl.needs.within (s.capsOf p)
      then some { found := f, booking := b, plan := pl } else none
    | _ => none

/-- The first eligible entry, from position 1 onward (R56). -/
def State.firstWork (s : State) (p : Port) (dock : Option (TankerSlot × Tanker)) : Option Work :=
  s.queue.findSome? fun e => s.eligible p dock e

/-- The nine bytes of a step, as in DEFINE PROGRAM (R186). -/
def stepBytes (st : WashStep) : List Byte :=
  beBytes 1 (mediumCode st.medium) ++ beBytes 2 st.tMin ++ beBytes 2 st.fMin ++ beBytes 2 st.dReq
    ++ beBytes 2 st.maxActive

/-- The data of a NEXT WORK that hands a compartment out (R57, R186). -/
def workBytes (w : Work) : List Byte :=
  beBytes 2 w.found.comp.tag ++ beBytes 1 w.found.comp.index ++ beBytes 1 w.plan.level
    ++ beBytes 1 w.plan.steps.length ++ beBytes 1 w.plan.index ++ beBytes 2 w.plan.dose ++ beBytes 2 w.plan.active
    ++ beBytes 1 (priorityCode w.booking.priority) ++ w.plan.steps.flatMap stepBytes

/-- The hand-out: the entry leaves the queue, the compartment becomes WASHING in BETWEEN held by the bay, and an undocked
bay is docked to its tanker (R53, R57). -/
def State.handOut (s : State) (p : Port) (docked : Bool) (w : Work) : State :=
  if docked then
    (s.dequeue w.found.comp.entry).setComp w.found.slot
      (w.found.comp.withSt (.washing w.booking w.plan p .between))
  else
    ((s.dequeue w.found.comp.entry).setComp w.found.slot
      (w.found.comp.withSt (.washing w.booking w.plan p .between))).setTanker w.found.tslot
        (some { w.found.tanker with docked := some p })

/-- The detail of an EMPTY reply (R58). -/
def emptyDetail (s : State) (docked : Bool) : Nat :=
  if s.queue.isEmpty then 0 else if docked then 1 else 2

/-- NEXT WORK of a bay (R55 to R58). -/
def nextWork (p : Port) (s : State) : State × Answer :=
  if Config.bayHolds ≤ (s.heldBy p).length then (s, refuse .full 2)
  else
    match s.firstWork p (s.dockedTanker p) with
    | some w => (s.handOut p (s.dockedTanker p).isSome w, okWith (workBytes w))
    | none =>
      (s, { result := .empty, detail := emptyDetail s (s.dockedTanker p).isSome,
            data := beBytes 2 (match s.dockedTanker p with
              | some (_, k) => k.tag
              | none => 0) })

/-- GIVE BACK of a bay (R61). -/
def giveBack (p : Port) (tag index : Nat) (s : State) : State × Answer :=
  s.withComp tag index fun f =>
    needsHold p s f.comp
      (match f.comp.st with
       | .washing b pl _ _ =>
         (returnToQueue f.slot f.comp b pl s,
           okWith (beBytes 1 2 ++ beBytes 1 ((returnToQueue f.slot f.comp b pl s).position f.comp.entry)))
       | _ => (s, stateRefusal f.comp))

/-- UNDOCK of a bay (R54). -/
def undock (p : Port) (s : State) : State × Answer :=
  match s.dockedTanker p with
  | none => (s, okWith (beBytes 2 0))
  | some (t, k) =>
    match s.heldBy p with
    | [] => (s.setTanker t (some { k with docked := none }), okWith (beBytes 2 k.tag))
    | c :: cs => (s, refuse .held (cs.foldl (fun m x => min m x.index) c.index))

/-- The six bytes of an entry in READ QUEUE (R63, R186). -/
def entryBytes (s : State) (e : Entry) : List Byte :=
  match s.find e.tag e.index with
  | some f =>
    beBytes 2 e.tag ++ beBytes 1 e.index
      ++ beBytes 1 (16 * (match f.comp.st.booking with
            | some b => priorityCode b.priority
            | none => 0)
          + (match f.comp.st.plan with
            | some pl => pl.level
            | none => 0))
      ++ beBytes 1 (match f.comp.st.plan with
            | some pl => capsCode pl.needs
            | none => 0)
      ++ beBytes 1 (portCode f.tanker.docked)
  | none => beBytes 2 e.tag ++ beBytes 1 e.index ++ [0, 0, 0]

/-- The entries READ QUEUE returns: from the start position, as many as fit the reply limit (R63). -/
def queuePage (s : State) (p : Port) (start : Nat) : List Entry :=
  (s.queue.drop (start - 1)).take (((s.port p).limit - 5) / 6)

/-- READ QUEUE (R63). -/
def readQueue (p : Port) (start : Nat) (s : State) : State × Answer :=
  (s, okWith (beBytes 1 s.queue.length ++ beBytes 1 (queuePage s p start).length
        ++ (queuePage s p start).flatMap (entryBytes s)))

/-! ### The requests as they are taken from a port -/

def takeNextWork (p : Port) (_b1 _b2 : Byte) (s : State) : State :=
  s.serve .nextWork p (nextWork p)

def takeGiveBack (p : Port) (payload : List Byte) (s : State) : State :=
  s.serve .giveBack p fun s =>
    withArgs (checkLong addressFields payload) s fun vs => giveBack p (arg vs 1) (arg vs 2) s

def takeUndock (p : Port) (_b1 _b2 : Byte) (s : State) : State :=
  s.serve .undock p (undock p)

def takeReadQueue (p : Port) (b1 b2 : Byte) (s : State) : State :=
  s.serve .readQueue p fun s =>
    withArgs (checkShort readQueueFields b1 b2) s fun vs => readQueue p (arg vs 1) s

/-! ### The commands -/

/-- NEXT_WORK (R57). -/
def execNextWork (p : Port) (b1 b2 : Byte) (s : State) : Host.Outcome State Fault Refusal :=
  .next (takeNextWork p b1 b2 s)

/-- GIVE_BACK (R61). -/
def execGiveBack (p : Port) (payload : List Byte) (s : State) : Host.Outcome State Fault Refusal :=
  .next (takeGiveBack p payload s)

/-- UNDOCK (R54). -/
def execUndock (p : Port) (b1 b2 : Byte) (s : State) : Host.Outcome State Fault Refusal :=
  .next (takeUndock p b1 b2 s)

/-- READ_QUEUE (R63). -/
def execReadQueue (p : Port) (b1 b2 : Byte) (s : State) : Host.Outcome State Fault Refusal :=
  .next (takeReadQueue p b1 b2 s)

end Sys2Proof.Machine
end

