-- ==== Sys2Proof/Machine/Link.lean ====
section
/-! DEFINITION. The station ports: receive states, frames, link faults, LINK replies and overrun (10, R173 to R182). -/

namespace Sys2Proof.Machine

/-- A decoded request is handed to the request checker and carried out or refused (R178): `args` are the two argument
bytes of a short frame, or the payload of a long one. -/
def State.carryOut (s : State) (r : ReqName) (p : Port) (args : List Byte) : State :=
  match r with
  | .readStatus => takeReadStatus p (args.getD 0 0) (args.getD 1 0) s
  | .readLines => takeReadLines p (args.getD 0 0) (args.getD 1 0) s
  | .setReplyLimit => takeSetReplyLimit p (args.getD 0 0) (args.getD 1 0) s
  | .readCompartment => takeReadCompartment p args s
  | .readRecords => takeReadRecords p args s
  | .readQueue => takeReadQueue p (args.getD 0 0) (args.getD 1 0) s
  | .setTime => takeSetTime p args s
  | .defineProduct => takeDefineProduct p args s
  | .deleteProduct => takeDeleteProduct p (args.getD 0 0) (args.getD 1 0) s
  | .setMatrixRow => takeSetMatrixRow p args s
  | .defineProgram => takeDefineProgram p args s
  | .setClassLimit => takeSetClassLimit p args s
  | .setPortRole => takeSetPortRole p args s
  | .setAccessMap => takeSetAccessMap p args s
  | .configureLine => takeConfigureLine p args s
  | .lockLines => takeLockLines p (args.getD 0 0) (args.getD 1 0) s
  | .setLine => takeSetLine p (args.getD 0 0) (args.getD 1 0) s
  | .setProbeCalibration => takeSetProbeCalibration p args s
  | .mapArm => takeMapArm p (args.getD 0 0) (args.getD 1 0) s
  | .clearYard => takeClearYard p (args.getD 0 0) (args.getD 1 0) s
  | .registerTanker => takeRegisterTanker p args s
  | .book => takeBook p args s
  | .revoke => takeRevoke p args s
  | .unblock => takeUnblock p args s
  | .ackIncident => takeAckIncident p args s
  | .departTanker => takeDepartTanker p (args.getD 0 0) (args.getD 1 0) s
  | .nextWork => takeNextWork p (args.getD 0 0) (args.getD 1 0) s
  | .stepStart => takeStepStart p args s
  | .washSample => takeWashSample p args s
  | .giveBack => takeGiveBack p args s
  | .undock => takeUndock p (args.getD 0 0) (args.getD 1 0) s
  | .inspectBegin => takeInspectBegin p args s
  | .inspectResult => takeInspectResult p args s
  | .inspectCancel => takeInspectCancel p args s
  | .fillBegin => takeFillBegin p args s
  | .fillVolume => takeFillVolume p args s
  | .fillResume => takeFillResume p args s
  | .fillEnd => takeFillEnd p args s

/-- The state with the receive state of a port changed. -/
def State.setRx (s : State) (p : Port) (rx : Rx) : State := s.setPort p { s.port p with rx := rx }

/-- The state with the link flags of a port changed. -/
def State.flag (s : State) (p : Port) (up : LinkFlags → LinkFlags) : State :=
  s.setPort p { s.port p with flags := up (s.port p).flags }

/-- A frame answered with LINK: three payload bytes, the frame's bits 6 to 0 in the type byte (R179). The frame is not
carried out. -/
def State.linkReply (s : State) (p : Port) (typeByte : Byte) : State :=
  s.reply p (typeByte.toNat % 128) (refuse .link 0)

/-- The type byte says that the frame is long (R174). -/
def isLong (typeByte : Byte) : Bool := typeByte.msb

/-- A complete frame whose payload check, if it has one, is right: the code is looked up, and its form must be the one
R183 gives it (R178). The port is out of HEADER and PAYLOAD when the request is handed on. -/
def State.decodeFrame (s : State) (p : Port) (typeByte : Byte) (args : List Byte) : State :=
  match ReqName.ofCode (typeByte.toNat % 128) with
  | some r =>
    if r.isShort = !isLong typeByte then (s.setRx p .idle).carryOut r p args
    else (s.flag p LinkFlags.raiseCode).linkReply p typeByte
  | none => (s.flag p LinkFlags.raiseCode).linkReply p typeByte

/-- The payload length a long frame states (R174). -/
def statedLength (got : List Byte) : Nat := beValue ((got.drop 1).take 2)

/-- A complete header (R176). `got` holds its four bytes. -/
def State.headerComplete (s : State) (p : Port) (got : List Byte) : State :=
  if got.getD 3 0 ≠ crc8 (got.take 3) then (s.flag p LinkFlags.raiseHeader).setRx p (.discard none)
  else if !isLong (got.getD 0 0) then s.decodeFrame p (got.getD 0 0) ((got.drop 1).take 2)
  else if statedLength got = 0 ∨ 240 < statedLength got then
    (s.flag p LinkFlags.raiseLength).setRx p (.discard (some (got.getD 0 0)))
  else s.setRx p (.payload got)

/-- A complete long frame (R178): header, payload, payload check. -/
def State.longComplete (s : State) (p : Port) (got : List Byte) : State :=
  if got.drop (4 + statedLength got) ≠ crc16Bytes ((got.drop 4).take (statedLength got)) then
    (s.flag p LinkFlags.raisePayload).linkReply p (got.getD 0 0)
  else s.decodeFrame p (got.getD 0 0) ((got.drop 4).take (statedLength got))

/-- A byte arrives on a port (R176, R177, R180). -/
def receiveByte (p : Port) (b : Byte) (s : State) : State :=
  match (s.port p).rx with
  | .idle => s.setRx p (.header [b])
  | .header got =>
    if (got ++ [b]).length < 4 then s.setRx p (.header (got ++ [b]))
    else s.headerComplete p (got ++ [b])
  | .payload got =>
    if (got ++ [b]).length < 4 + statedLength got + 2 then s.setRx p (.payload (got ++ [b]))
    else s.longComplete p (got ++ [b])
  | .discard _ => s
  | .replying _ => s.flag p LinkFlags.raiseOverrun

/-- A break arrives on a port (R177, R180). -/
def receiveBreak (p : Port) (s : State) : State :=
  match (s.port p).rx with
  | .idle => (s.flag p LinkFlags.raiseBreak).setRx p (.discard none)
  | .header _ => (s.flag p LinkFlags.raiseBreak).setRx p (.discard none)
  | .payload _ => (s.flag p LinkFlags.raiseBreak).setRx p (.discard none)
  | .discard _ => s.flag p LinkFlags.raiseBreak
  | .replying _ => (s.flag p LinkFlags.raiseBreak).flag p LinkFlags.raiseOverrun

/-- More than 20 ms pass with no byte (R177). The quiet that ends DISCARD is the event DISCARD_END. -/
def receiveGap (p : Port) (s : State) : State :=
  match (s.port p).rx with
  | .header _ => (s.flag p LinkFlags.raiseGap).setRx p .idle
  | .payload _ => (s.flag p LinkFlags.raiseGap).setRx p .idle
  | .idle => s
  | .discard _ => s
  | .replying _ => s

/-- 20 ms of quiet end DISCARD: IDLE, or the LINK reply owed after a LENGTH fault (R177, R179). -/
def endDiscard (p : Port) (s : State) : State :=
  match (s.port p).rx with
  | .discard none => s.setRx p .idle
  | .discard (some typeByte) => s.linkReply p typeByte
  | .idle => s
  | .header _ => s
  | .payload _ => s
  | .replying _ => s

/-- The last byte of the reply has been sent: DISCARD if OVERRUN was raised during this REPLYING, IDLE otherwise (R180).
Building the reply cleared the flags, so OVERRUN is raised now exactly when it was raised since. -/
def endReply (p : Port) (s : State) : State :=
  match (s.port p).rx with
  | .replying _ => if (s.port p).flags.overrun then s.setRx p (.discard none) else s.setRx p .idle
  | .idle => s
  | .header _ => s
  | .payload _ => s
  | .discard _ => s

/-! ### The commands -/

/-- BYTE_RECEIVED (R177). -/
def execByteReceived (p : Port) (b : Byte) (s : State) : Host.Outcome State Fault Refusal :=
  .next (receiveByte p b s)

/-- BREAK_RECEIVED (R177). -/
def execBreakReceived (p : Port) (s : State) : Host.Outcome State Fault Refusal :=
  .next (receiveBreak p s)

/-- GAP (R177). -/
def execGap (p : Port) (s : State) : Host.Outcome State Fault Refusal :=
  .next (receiveGap p s)

/-- DISCARD_END (R179). -/
def execDiscardEnd (p : Port) (s : State) : Host.Outcome State Fault Refusal :=
  .next (endDiscard p s)

/-- REPLY_SENT (R180). -/
def execReplySent (p : Port) (s : State) : Host.Outcome State Fault Refusal :=
  .next (endReply p s)

end Sys2Proof.Machine
end

