-- ==== Sys2Proof/Machine/Dispatch.lean ====
section
/-! DEFINITION. One arm for each command. -/

namespace Sys2Proof.Machine

def exec (i : Instr) (s : State) : Host.Outcome State Fault Refusal :=
  match i with
  | .hardwareReset => Sys2Proof.Machine.execHardwareReset s
  | .yardClockAdvance => Sys2Proof.Machine.execYardClockAdvance s
  | .silenceExpiry k => Sys2Proof.Machine.execSilenceExpiry k s
  | .activeTimeExpiry k => Sys2Proof.Machine.execActiveTimeExpiry k s
  | .releaseExpiry k => Sys2Proof.Machine.execReleaseExpiry k s
  | .inputSample l high => Sys2Proof.Machine.execInputSample l high s
  | .analogConversion l raw => Sys2Proof.Machine.execAnalogConversion l raw s
  | .byteReceived p b => Sys2Proof.Machine.execByteReceived p b s
  | .breakReceived p => Sys2Proof.Machine.execBreakReceived p s
  | .gap p => Sys2Proof.Machine.execGap p s
  | .discardEnd p => Sys2Proof.Machine.execDiscardEnd p s
  | .replySent p => Sys2Proof.Machine.execReplySent p s
  | .readStatus p b1 b2 => Sys2Proof.Machine.execReadStatus p b1 b2 s
  | .readLines p b1 b2 => Sys2Proof.Machine.execReadLines p b1 b2 s
  | .setReplyLimit p b1 b2 => Sys2Proof.Machine.execSetReplyLimit p b1 b2 s
  | .readCompartment p payload => Sys2Proof.Machine.execReadCompartment p payload s
  | .readRecords p payload => Sys2Proof.Machine.execReadRecords p payload s
  | .readQueue p b1 b2 => Sys2Proof.Machine.execReadQueue p b1 b2 s
  | .setTime p payload => Sys2Proof.Machine.execSetTime p payload s
  | .defineProduct p payload => Sys2Proof.Machine.execDefineProduct p payload s
  | .deleteProduct p b1 b2 => Sys2Proof.Machine.execDeleteProduct p b1 b2 s
  | .setMatrixRow p payload => Sys2Proof.Machine.execSetMatrixRow p payload s
  | .defineProgram p payload => Sys2Proof.Machine.execDefineProgram p payload s
  | .setClassLimit p payload => Sys2Proof.Machine.execSetClassLimit p payload s
  | .setPortRole p payload => Sys2Proof.Machine.execSetPortRole p payload s
  | .setAccessMap p payload => Sys2Proof.Machine.execSetAccessMap p payload s
  | .configureLine p payload => Sys2Proof.Machine.execConfigureLine p payload s
  | .lockLines p b1 b2 => Sys2Proof.Machine.execLockLines p b1 b2 s
  | .setLine p b1 b2 => Sys2Proof.Machine.execSetLine p b1 b2 s
  | .setProbeCalibration p payload => Sys2Proof.Machine.execSetProbeCalibration p payload s
  | .mapArm p b1 b2 => Sys2Proof.Machine.execMapArm p b1 b2 s
  | .clearYard p b1 b2 => Sys2Proof.Machine.execClearYard p b1 b2 s
  | .registerTanker p payload => Sys2Proof.Machine.execRegisterTanker p payload s
  | .book p payload => Sys2Proof.Machine.execBook p payload s
  | .revoke p payload => Sys2Proof.Machine.execRevoke p payload s
  | .unblock p payload => Sys2Proof.Machine.execUnblock p payload s
  | .ackIncident p payload => Sys2Proof.Machine.execAckIncident p payload s
  | .departTanker p b1 b2 => Sys2Proof.Machine.execDepartTanker p b1 b2 s
  | .nextWork p b1 b2 => Sys2Proof.Machine.execNextWork p b1 b2 s
  | .stepStart p payload => Sys2Proof.Machine.execStepStart p payload s
  | .washSample p payload => Sys2Proof.Machine.execWashSample p payload s
  | .giveBack p payload => Sys2Proof.Machine.execGiveBack p payload s
  | .undock p b1 b2 => Sys2Proof.Machine.execUndock p b1 b2 s
  | .inspectBegin p payload => Sys2Proof.Machine.execInspectBegin p payload s
  | .inspectResult p payload => Sys2Proof.Machine.execInspectResult p payload s
  | .inspectCancel p payload => Sys2Proof.Machine.execInspectCancel p payload s
  | .fillBegin p payload => Sys2Proof.Machine.execFillBegin p payload s
  | .fillVolume p payload => Sys2Proof.Machine.execFillVolume p payload s
  | .fillResume p payload => Sys2Proof.Machine.execFillResume p payload s
  | .fillEnd p payload => Sys2Proof.Machine.execFillEnd p payload s

end Sys2Proof.Machine
end

