-- ==== Sys2Proof/Safety.lean ====
section
/-! DEFINITION. What counts as a safe yard: the invariants the manual gives the records, the queue, the dockings, the lines
and the ports, each on its own; and the words the statements use about a request that reaches its owner. -/

namespace Sys2Proof

/-! ### Which requests the chain's checks 4 to 7 apply to -/

/-- The request carries a compartment address (R163). -/
def ReqName.addressed : ReqName → Bool
  | .book | .revoke | .unblock | .ackIncident | .readCompartment | .stepStart | .washSample | .giveBack
  | .inspectBegin | .inspectResult | .inspectCancel | .fillBegin | .fillVolume | .fillResume | .fillEnd => true
  | _ => false

/-- The request needs the hold (R13). -/
def ReqName.needsTheHold : ReqName → Bool
  | .stepStart | .washSample | .giveBack | .inspectResult | .inspectCancel | .fillVolume | .fillResume | .fillEnd => true
  | _ => false

/-- The request needs that nobody holds the compartment (R13). -/
def ReqName.needsNobody : ReqName → Bool
  | .book | .inspectBegin | .fillBegin => true
  | _ => false

/-- The arguments that follow the compartment address, with their sizes, are those of the request and in range
(R38, R66, R69, R92, R110, R118, R123, R183). -/
def ReqName.restLegal : ReqName → List (Nat × Nat) → Bool
  | .book, [(2, target), (1, pr)] => target ≤ 9999 && 1 ≤ pr && pr ≤ 2
  | .stepStart, [(1, step)] => 1 ≤ step && step ≤ 6
  | .washSample, [(1, t), (2, temp), (2, flow), (1, medium)] =>
    t ≤ 255 && temp ≤ 65535 && flow ≤ 65535 && 1 ≤ medium && medium ≤ 6
  | .inspectResult, [(1, verdict), (2, cond), (3, tag)] =>
    1 ≤ verdict && verdict ≤ 2 && cond ≤ 65535 && 1 ≤ tag && tag ≤ 999999
  | .fillBegin, [(1, arm), (2, product), (3, tag)] =>
    1 ≤ arm && arm ≤ 4 && 1 ≤ product && product ≤ 9999 && 1 ≤ tag && tag ≤ 999999
  | .fillVolume, [(4, count)] => count < 2 ^ 32
  | .fillEnd, [(4, count)] => count < 2 ^ 32
  | .revoke, [] | .unblock, [] | .ackIncident, [] | .readCompartment, [] | .giveBack, [] | .inspectBegin, []
  | .inspectCancel, [] | .fillResume, [] => true
  | _, _ => false

/-! ### The ranges that check 3 holds arguments against -/

/-- An argument as a request's rule gives it: its size in bytes, and its range as a union of intervals. -/
structure ArgRange where
  size : Nat
  allowed : List (Nat × Nat)
  deriving DecidableEq, Repr

/-- An argument whose range is `lo` to `hi`. -/
def ArgRange.of (size lo hi : Nat) : ArgRange := ⟨size, [(lo, hi)]⟩

/-- The value is in the range. -/
def ArgRange.admits (a : ArgRange) (v : Nat) : Prop := ∃ x ∈ a.allowed, x.1 ≤ v ∧ v ≤ x.2

/-- A compartment address (R165, R183). -/
def ArgRange.address : List ArgRange := [.of 2 1 65535, .of 1 1 6]

/-- The five fields of a step (R32, R33). -/
def ArgRange.step : List ArgRange := [.of 1 1 6, .of 2 0 1400, .of 2 0 600, .of 2 1 60000, .of 2 60 7200]

/-- A port given as the letter code of one of B to F (R152, R160). -/
def ArgRange.stationPort : ArgRange := .of 1 0x42 0x46

/-- The instance that suits a function code (R152). -/
def ArgRange.instanceOf (code : Nat) : ArgRange :=
  if code = 1 ∨ code = 2 ∨ code = 3 then .of 1 1 4
  else if code = 4 ∨ code = 6 then .stationPort
  else .of 1 0 0

/-- The capability set of a role: empty unless the role is WASH, code 2 (R160). -/
def ArgRange.capsOf (role : Nat) : ArgRange := if role = 2 then .of 1 0 7 else .of 1 0 0

/-- The sizes and ranges of a long-frame request's arguments, as its own rule states them (R26, R29, R31, R33, R38, R66,
R69, R92, R110, R118, R123, R152, R157, R160, R165, R169, R183). A range may depend on arguments before it, whose values
stand in the list. None: a request whose rule orders its checks in another way (REGISTER TANKER, R14; SET TIME, R132; SET
ACCESS MAP, R162), or a short frame. -/
def ReqName.ranges (r : ReqName) (vs : List Nat) : Option (List ArgRange) :=
  match r with
  | .readCompartment | .revoke | .unblock | .ackIncident | .giveBack | .inspectBegin | .inspectCancel | .fillResume =>
    some ArgRange.address
  | .readRecords => some [.of 1 0 191, .of 1 1 192, .of 1 0 1]
  | .defineProduct => some [.of 2 1 9999, .of 1 1 15, .of 1 0 1, .of 1 0 6, .of 1 80 98]
  | .setMatrixRow => some (.of 1 0 15 :: List.replicate 16 (.of 1 0 7))
  | .defineProgram => some ([.of 1 1 6, .of 1 1 6] ++ (List.replicate (vs.getD 1 0) ArgRange.step).flatten)
  | .setClassLimit => some [.of 1 0 15, .of 2 1 20000, .of 1 1 48]
  | .setPortRole => some [.stationPort, ⟨1, [(0, 0), (2, 4)]⟩, .capsOf (vs.getD 1 0)]
  | .configureLine =>
    some [.of 1 0 23, .of 1 1 5, .of 1 0 1, ⟨1, [(0, 0), (2, 2), (4, 4), (8, 8)]⟩, .of 1 0 6, .instanceOf (vs.getD 4 0)]
  | .setProbeCalibration => some [.of 2 1 1023, ⟨2, [(0, 2000), (63536, 65535)]⟩]
  | .book => some (ArgRange.address ++ [.of 2 0 9999, .of 1 1 2])
  | .stepStart => some (ArgRange.address ++ [.of 1 1 6])
  | .washSample => some (ArgRange.address ++ [.of 1 0 255, .of 2 0 65535, .of 2 0 65535, .of 1 1 6])
  | .inspectResult => some (ArgRange.address ++ [.of 1 1 2, .of 2 0 65535, .of 3 1 999999])
  | .fillBegin => some (ArgRange.address ++ [.of 1 1 4, .of 2 1 9999, .of 3 1 999999])
  | .fillVolume | .fillEnd => some (ArgRange.address ++ [.of 4 0 4294967295])
  | .readStatus | .readLines | .setReplyLimit | .readQueue | .setTime | .deleteProduct | .setAccessMap | .lockLines
  | .setLine | .mapArm | .clearYard | .registerTanker | .departTanker | .nextWork | .undock => none

/-- The first arguments have these values, each in its range. -/
def argsInRange (fs : List ArgRange) (vs : List Nat) : Prop :=
  ∀ n v : Nat, vs[n]? = some v → ∃ a : ArgRange, fs[n]? = some a ∧ a.admits v

/-- The values as a payload carries them. -/
def argPayload (fs : List ArgRange) (vs : List Nat) : List Byte :=
  Machine.argBytes (List.zipWith (fun a v => (a.size, v)) fs vs)

/-- A compartment of a REGISTER TANKER payload is in range: its capacity, and its last product, where 0 is CLEAN and 0xFFFF
unknown (R14, R184). -/
def tankerPairLegal (x : Nat × Nat) : Prop := (500 ≤ x.1 ∧ x.1 ≤ 20000) ∧ (x.2 ≤ 9999 ∨ x.2 = 0xFFFF)

/-- The request of a name with argument bytes, sent from a port: a long-frame request with them as payload, a short-frame
request with the first two. -/
def ReqName.command : ReqName → Port → List Byte → Instr
  | .readStatus, p, a => .readStatus p (a.getD 0 0) (a.getD 1 0)
  | .readLines, p, a => .readLines p (a.getD 0 0) (a.getD 1 0)
  | .setReplyLimit, p, a => .setReplyLimit p (a.getD 0 0) (a.getD 1 0)
  | .readCompartment, p, a => .readCompartment p a
  | .readRecords, p, a => .readRecords p a
  | .readQueue, p, a => .readQueue p (a.getD 0 0) (a.getD 1 0)
  | .setTime, p, a => .setTime p a
  | .defineProduct, p, a => .defineProduct p a
  | .deleteProduct, p, a => .deleteProduct p (a.getD 0 0) (a.getD 1 0)
  | .setMatrixRow, p, a => .setMatrixRow p a
  | .defineProgram, p, a => .defineProgram p a
  | .setClassLimit, p, a => .setClassLimit p a
  | .setPortRole, p, a => .setPortRole p a
  | .setAccessMap, p, a => .setAccessMap p a
  | .configureLine, p, a => .configureLine p a
  | .lockLines, p, a => .lockLines p (a.getD 0 0) (a.getD 1 0)
  | .setLine, p, a => .setLine p (a.getD 0 0) (a.getD 1 0)
  | .setProbeCalibration, p, a => .setProbeCalibration p a
  | .mapArm, p, a => .mapArm p (a.getD 0 0) (a.getD 1 0)
  | .clearYard, p, a => .clearYard p (a.getD 0 0) (a.getD 1 0)
  | .registerTanker, p, a => .registerTanker p a
  | .book, p, a => .book p a
  | .revoke, p, a => .revoke p a
  | .unblock, p, a => .unblock p a
  | .ackIncident, p, a => .ackIncident p a
  | .departTanker, p, a => .departTanker p (a.getD 0 0) (a.getD 1 0)
  | .nextWork, p, a => .nextWork p (a.getD 0 0) (a.getD 1 0)
  | .stepStart, p, a => .stepStart p a
  | .washSample, p, a => .washSample p a
  | .giveBack, p, a => .giveBack p a
  | .undock, p, a => .undock p (a.getD 0 0) (a.getD 1 0)
  | .inspectBegin, p, a => .inspectBegin p a
  | .inspectResult, p, a => .inspectResult p a
  | .inspectCancel, p, a => .inspectCancel p a
  | .fillBegin, p, a => .fillBegin p a
  | .fillVolume, p, a => .fillVolume p a
  | .fillResume, p, a => .fillResume p a
  | .fillEnd, p, a => .fillEnd p a

end Sys2Proof

namespace Sys2Proof.Machine

/-! ### A request that reaches its owner -/

/-- The port may issue the request: checks 1 and 2 of the chain pass (R159, R162, R163). -/
def State.admits (s : State) (p : Port) (r : ReqName) : Prop :=
  permitted r (s.role p) = true ∧ s.denies p r = false

/-- A tag and an index within their ranges (R165) that name a compartment present (R166). -/
def State.names (s : State) (tag index : Nat) (f : Found) : Prop :=
  (1 ≤ tag ∧ tag ≤ 65535) ∧ (1 ≤ index ∧ index ≤ 6) ∧ s.find tag index = some f

/-- The command carries this long-frame request of the port: it is the request, or the byte that completes its frame
(R174, R178). The header check byte was held against the header before (R176). -/
def State.carries (s : State) (i : Instr) (r : ReqName) (p : Port) (payload : List Byte) : Prop :=
  i = r.command p payload ∨
  ∃ (got : List Byte) (b check : Byte), i = .byteReceived p b ∧ (s.port p).rx = .payload got ∧
    got ++ [b] = BitVec.ofNat 8 (r.code + 128) :: beBytes 2 payload.length ++ [check] ++ payload ++ crc16Bytes payload

/-- Check 3 of a long-frame request holds its arguments against the ranges its rule states (R163, R165). After arguments in
range, the next one that is out of range, or not carried whole, gives its number as the detail, and bytes after the last
argument give the number after it. DEFINE PROGRAM holds the payload length against the step count before the steps (R33). A
payload with every argument in range is answered with another result than RANGE. -/
def State.checksArguments (s : State) (r : ReqName) (p : Port) : Prop :=
  ∀ (vs : List Nat) (fs : List ArgRange), r.ranges vs = some fs → argsInRange fs vs →
    (∀ (a : ArgRange) (tail payload : List Byte), payload = argPayload fs vs ++ tail → fs[vs.length]? = some a →
      (tail.length < a.size ∨ ¬ a.admits (beValue (tail.take a.size))) →
      (r = .defineProgram → 2 ≤ vs.length → payload.length = 2 + 9 * vs.getD 1 0) →
      exec (r.command p payload) s = .next (s.reply p r.code ⟨.range, vs.length + 1, []⟩)) ∧
    (∀ tail : List Byte, r = .defineProgram → vs.length = 2 → tail.length ≠ 9 * vs.getD 1 0 →
      exec (r.command p (argPayload fs vs ++ tail)) s = .next (s.reply p r.code ⟨.range, 2, []⟩)) ∧
    (vs.length = fs.length →
      (∀ tail : List Byte, tail ≠ [] → r ≠ .defineProgram →
        exec (r.command p (argPayload fs vs ++ tail)) s = .next (s.reply p r.code ⟨.range, fs.length + 1, []⟩)) ∧
      ∃ t ty result rest, exec (r.command p (argPayload fs vs)) s = .next t ∧
        (t.port p).rx = .replying ⟨ty, result :: rest⟩ ∧ result ≠ 0x43)

/-- The bytes of a compartment address (R183). -/
def addressBytes (tag index : Nat) : List Byte := argBytes [(2, tag), (1, index)]

/-- A record holds the product code, as its last product or as its booking's target (R25). -/
def State.holdsCode (s : State) (code : Nat) : Prop :=
  ∃ (k : Slot) (c : Comp), s.compAt k = some c ∧
    ((∃ l, c.last = some l ∧ l.code = code) ∨ ∃ b, c.st.booking = some b ∧ b.target = code)

/-- An entry that NEXT WORK from a bay may hand out (R56): its compartment is QUEUED with this booking and plan, it belongs
to the tanker docked to the bay, or the bay is undocked and so is the tanker, and the bay has every capability the plan
needs. -/
def State.mayHandOut (s : State) (p : Port) (e : Entry) (f : Found) (b : Booking) (pl : Plan) : Prop :=
  s.find e.tag e.index = some f ∧ f.comp.st = .queued b pl ∧
  (f.tanker.docked = some p ∨
    (f.tanker.docked = none ∧ ∀ t k, s.tankerAt t = some k → k.docked ≠ some p)) ∧
  (pl.needs.steam = true → (s.capsOf p).steam = true) ∧ (pl.needs.solvent = true → (s.capsOf p).solvent = true) ∧
  (pl.needs.food = true → (s.capsOf p).food = true)

/-- The bytes of a step as DEFINE PROGRAM and NEXT WORK carry it (R183, R186). -/
def stepArgs (st : WashStep) : List Byte :=
  argBytes [(1, mediumCode st.medium), (2, st.tMin), (2, st.fMin), (2, st.dReq), (2, st.maxActive)]

/-- The fields of a step are in their ranges (R32). -/
def WashStep.legal (st : WashStep) : Prop :=
  st.tMin ≤ 1400 ∧ st.fMin ≤ 600 ∧ (1 ≤ st.dReq ∧ st.dReq ≤ 60000) ∧ (60 ≤ st.maxActive ∧ st.maxActive ≤ 7200)

/-- The bytes of an optional part in READ COMPARTMENT: the marker 1 and the part, or the marker 0 alone (R186). -/
def markedBytes : Option (List (Nat × Nat)) → List Byte
  | some parts => 1 :: argBytes parts
  | none => [0]

/-! ### Invariants of the tables -/

/-- R1, R2: a free tanker slot has no compartment record; an occupied one has a tag from 1 to 65535, 1 to 6 compartments,
and a record with its tag and index in exactly the slots of its compartments. No two tankers hold the same tag. -/
def State.tablesAgree (s : State) : Prop :=
  (∀ t : TankerSlot, s.tankerAt t = none → ∀ j : Fin 6, s.compAt (compSlot t (j.val + 1)) = none) ∧
  (∀ (t : TankerSlot) (k : Tanker), s.tankerAt t = some k →
    (1 ≤ k.tag ∧ k.tag ≤ 65535) ∧ (1 ≤ k.count ∧ k.count ≤ 6) ∧
    ∀ j : Fin 6,
      (j.val < k.count → ∃ c, s.compAt (compSlot t (j.val + 1)) = some c ∧ c.tag = k.tag ∧ c.index = j.val + 1) ∧
      (k.count ≤ j.val → s.compAt (compSlot t (j.val + 1)) = none)) ∧
  (∀ (t u : TankerSlot) (k l : Tanker), s.tankerAt t = some k → s.tankerAt u = some l → k.tag = l.tag → t = u)

/-- R83: the fault count lies within 0 to 3, and it is 3 exactly in BLOCKED(FAULTS). -/
def Comp.faultsAgree (c : Comp) : Prop :=
  c.faults ≤ 3 ∧ (c.faults = 3 ↔ ∃ b pl, c.st = .blockedFaults b pl)

/-- R135: an overflow flag is set only while the incident slot is full. -/
def Comp.overflowAgrees (c : Comp) : Prop := c.overflow = true → c.incident.isSome = true

/-- R102, R104: the release of a RELEASED compartment is not frozen, that of a FILLING one is. -/
def Comp.frozenAgrees (c : Comp) : Prop :=
  (∀ b pl r, c.st = .released b pl r → r.frozen = false) ∧
  (∀ b pl h r f hs, c.st = .filling b pl h r f hs → r.frozen = true)

/-- R65, R74, R118: the step dose and the delivered litres lie within 0 to 65535. -/
def Comp.countsBounded (c : Comp) : Prop :=
  (∀ pl, c.st.plan = some pl → pl.dose ≤ 65535) ∧
  (∀ f h, c.st.fill = some (f, h) → f.delivered ≤ 65535)

/-- R5, R32, R65: the parts of a plan lie in their ranges; a plan of level 0 holds no step, and any other a step at its
current index. -/
def Plan.rangesAgree (pl : Plan) : Prop :=
  pl.level ≤ 6 ∧ pl.steps.length ≤ 6 ∧ (pl.level = 0 ↔ pl.steps = []) ∧
  (1 ≤ pl.index ∧ pl.index ≤ max pl.steps.length 1) ∧ (∀ st ∈ pl.steps, st.legal) ∧
  pl.active ≤ 7200 ∧ pl.silence ≤ 60 ∧ pl.mismatch ≤ 3

/-- R3, R5, R6, R7: the parts of a record lie in their ranges. -/
def Comp.rangesAgree (c : Comp) : Prop :=
  (500 ≤ c.capacity ∧ c.capacity ≤ 20000) ∧ c.performed ≤ 6 ∧
  (∀ pl, c.st.plan = some pl → pl.rangesAgree) ∧
  (∀ x, c.reading = some x → x.conductivity ≤ 20000) ∧
  (∀ r, c.st.release = some r → r.performed ≤ 6 ∧ r.conductivity ≤ 20000 ∧
    (1 ≤ r.closureTag ∧ r.closureTag ≤ 999999) ∧ (1 ≤ r.remaining ∧ r.remaining ≤ 172800)) ∧
  (∀ q, c.st.loadedPart = some q → q.quantity ≤ 65535)

/-- R10, R65, R72, R81, R82: the plan of a QUEUED or WASHING compartment has a level from 1 to 6; outside a running step's
progress its silence seconds and mismatch count are 0; a running step stands below its three ends. -/
def Comp.progressAgrees (c : Comp) : Prop :=
  (∀ b pl, c.st = .queued b pl → 1 ≤ pl.level ∧ pl.silence = 0 ∧ pl.mismatch = 0) ∧
  (∀ b pl h ph, c.st = .washing b pl h ph → 1 ≤ pl.level ∧
    (ph = .between → pl.silence = 0 ∧ pl.mismatch = 0) ∧
    (ph = .active → pl.silence < 60 ∧ pl.mismatch < 3 ∧
      ∀ st, pl.steps[pl.index - 1]? = some st → pl.active < st.maxActive))

/-- R116, R117, R118: the fill limit lies within 400 to 19600, and LIMIT is in the halt set exactly when the delivered
litres are at or above it; so a fill that is FLOWING stands below its limit. -/
def Comp.fillAgrees (c : Comp) : Prop :=
  ∀ f h, c.st.fill = some (f, h) →
    (400 ≤ f.limit ∧ f.limit ≤ 19600) ∧ (h.limit = true ↔ f.limit ≤ f.delivered)

/-- R80, R102, R131: a record that owes an advance, and whose timer still runs, stands at the expiry which that advance
brings; so every other running timer has counted every advance that reached it. -/
def Comp.owesAgree (c : Comp) : Prop :=
  c.advanceDue = true →
    (∀ b pl h st, c.st = .washing b pl h .active → pl.steps[pl.index - 1]? = some st →
      st.maxActive ≤ pl.active + 1 ∨ 60 ≤ pl.silence + 1) ∧
    (∀ b pl r, c.st = .released b pl r → r.remaining ≤ 1)

/-- The four together, of every compartment record. -/
def State.boundsAgree (s : State) : Prop :=
  ∀ (k : Slot) (c : Comp), s.compAt k = some c → c.rangesAgree ∧ c.progressAgrees ∧ c.fillAgrees ∧ c.owesAgree

/-- What holds of every compartment record by R65, R74, R83, R102, R104, R118 and R135. -/
def State.recordsAgree (s : State) : Prop :=
  ∀ (k : Slot) (c : Comp), s.compAt k = some c →
    c.faultsAgree ∧ c.overflowAgrees ∧ c.frozenAgrees ∧ c.countsBounded

/-- R12: a holder's role is the one its compartment's state asks for. -/
def State.holdersAgree (s : State) : Prop :=
  ∀ (k : Slot) (c : Comp) (h : Port), s.compAt k = some c → c.st.holder = some h →
    (stateCode c.st = 3 → s.role h = .wash) ∧ (stateCode c.st = 5 → s.role h = .inspect) ∧
    (stateCode c.st = 7 → s.role h = .fill)

/-- R12, R52, R55: a WASH port holds at most two compartments. -/
def State.baysHoldTwo (s : State) : Prop := ∀ p : Port, s.role p = .wash → (s.heldBy p).length ≤ 2

/-- R107: at most one compartment is FILLING on an arm. -/
def State.oneFillEach (s : State) : Prop :=
  ∀ (j k : Slot) (c d : Comp) (f g : Fill) (x y : HaltSet), s.compAt j = some c → s.compAt k = some d →
    c.st.fill = some (f, x) → d.st.fill = some (g, y) → f.arm = g.arm → j = k

/-! ### Invariants of the wash queue and the dockings -/

/-- R47: an entry is in the queue exactly when its compartment is QUEUED. -/
def State.queueAgrees (s : State) : Prop :=
  s.queue.Nodup ∧
  (∀ (k : Slot) (c : Comp), s.compAt k = some c → (c.entry ∈ s.queue ↔ ∃ b pl, c.st = .queued b pl)) ∧
  (∀ e ∈ s.queue, ∃ (k : Slot) (c : Comp), s.compAt k = some c ∧ c.entry = e)

/-- R47: no NORMAL entry stands before an URGENT entry. -/
def State.urgentFirst (s : State) : Prop :=
  s.queue.Pairwise fun e f => s.isUrgent f = true → s.isUrgent e = true

/-- R52: no bay is docked to two tankers, and every compartment that is WASHING belongs to the tanker docked to its
holder. -/
def State.dockingsAgree (s : State) : Prop :=
  (∀ (t u : TankerSlot) (k l : Tanker) (p : Port), s.tankerAt t = some k → s.tankerAt u = some l →
    k.docked = some p → l.docked = some p → t = u) ∧
  (∀ (t : TankerSlot) (j : Fin 6) (c : Comp) (b : Booking) (pl : Plan) (h : Port) (ph : WashPhase),
    s.compAt (compSlot t (j.val + 1)) = some c → c.st = .washing b pl h ph →
    ∃ k, s.tankerAt t = some k ∧ k.docked = some h)

/-! ### Invariants of the lines, the probes and the ports -/

/-- R149: the latch of an output line bound to PERMIT, WASH_ENABLE or ALARM is at the demand of its instance. -/
def State.latchesFollow (s : State) : Prop :=
  ∀ (l : LineNo) (f : Func) (d : Bool), (s.line l).func = some f → s.demand f = some d → (s.line l).latch = d

/-- R140, R146, R151, R152: the depth and the function of a line suit its mode, only lines 16 to 23 are ANALOG, the run
count of an INPUT_FILTERED line is below its depth, and a raw value is at most 1023. -/
def State.linesAgree (s : State) : Prop :=
  ∀ l : LineNo,
    depthSuits (s.line l).mode (s.line l).depth = true ∧
    ((s.line l).depth = 0 ∨ (s.line l).depth = 2 ∨ (s.line l).depth = 4 ∨ (s.line l).depth = 8) ∧
    (∀ f, (s.line l).func = some f → modeSuits (s.line l).mode f = true) ∧
    ((s.line l).mode = .analog → 16 ≤ l.val) ∧
    ((s.line l).mode = .inputFiltered → (s.line l).run < (s.line l).depth) ∧
    (∀ raw, (s.line l).raw = some raw → raw ≤ 1023)

/-- R151, R88: a function instance is bound to at most one line, and a port has a probe record exactly when a line is
bound to RINSE_PROBE for it. -/
def State.bindingsAgree (s : State) : Prop :=
  (∀ (l m : LineNo) (f : Func), (s.line l).func = some f → (s.line m).func = some f → l = m) ∧
  (∀ p : Port, (s.probe p).isSome = true ↔ ∃ l : LineNo, (s.line l).func = some (.rinseProbe p))

/-- R88, R94, R157: the calibration and every conductivity converted with it lie in their ranges. -/
def State.probesAgree (s : State) : Prop :=
  (1 ≤ s.scale ∧ s.scale ≤ 1023) ∧ (-2000 ≤ s.offset ∧ s.offset ≤ 2000) ∧
  (∀ (p : Port) (x : Probe) (r : ProbeReading), s.probe p = some x → x.reading = some r →
    r.raw ≤ 1023 ∧ r.conductivity ≤ 20000)

/-- R158, R171, R174: a reply limit lies within 96 to 240; a partial header holds 1 to 3 bytes; a partial long frame
holds its header and less than the whole frame, and its length is 1 to 240; capabilities are those of a WASH port. -/
def State.portsAgree (s : State) : Prop :=
  ∀ p : Port,
    (96 ≤ (s.port p).limit ∧ (s.port p).limit ≤ 240) ∧
    (∀ got, (s.port p).rx = .header got → 1 ≤ got.length ∧ got.length ≤ 3) ∧
    (∀ got, (s.port p).rx = .payload got →
      4 ≤ got.length ∧ got.length < statedLength got + 6 ∧ 1 ≤ statedLength got ∧ statedLength got ≤ 240) ∧
    ((s.port p).role ≠ .wash → (s.port p).caps = ⟨false, false, false⟩)

/-- R24, R28, R30, R32: the planner's tables hold values in their ranges, and the catalogue stands by rising code, each
code once, with at most 128 entries. -/
def State.plannerAgrees (s : State) : Prop :=
  (s.catalogue.Pairwise fun x y => x.code < y.code) ∧ s.catalogue.length ≤ 128 ∧
  (∀ e ∈ s.catalogue, (1 ≤ e.code ∧ e.code ≤ 9999) ∧ 1 ≤ e.cls.val ∧ e.minLevelAfter ≤ 6 ∧
    (80 ≤ e.fillPercent ∧ e.fillPercent ≤ 98)) ∧
  (∀ r c : ClassNo, s.matrixLevel r c ≤ 7) ∧
  (∀ c : ClassNo, (1 ≤ (s.classLimit c).conductivity ∧ (s.classLimit c).conductivity ≤ 20000) ∧
    (1 ≤ (s.classLimit c).validityHours ∧ (s.classLimit c).validityHours ≤ 48)) ∧
  (∀ n : Fin 6, (s.programs[n]).length ≤ 6 ∧
    ∀ st ∈ s.programs[n], st.legal)

/-- R25: every product a record names, as last product or as booking target, is in the catalogue with the class the
record copied; 0 stands for CLEAN and for clean return, with class 0. -/
def State.referencesHold (s : State) : Prop :=
  ∀ (k : Slot) (c : Comp), s.compAt k = some c →
    (∀ l, c.last = some l → if l.code = 0 then l.cls = 0 else ∃ e, s.product? l.code = some e ∧ e.cls = l.cls) ∧
    (∀ b, c.st.booking = some b →
      if b.target = 0 then b.cls = 0 else ∃ e, s.product? b.target = some e ∧ e.cls = b.cls)

/-- R25: while they are present, the release's target code and the fill record's product code are the booking's target. -/
def Comp.targetsAgree (c : Comp) : Prop :=
  (∀ b r, c.st.booking = some b → c.st.release = some r → r.target = b.target) ∧
  (∀ b f h, c.st.booking = some b → c.st.fill = some (f, h) → f.product = b.target)

/-! ### The invariants together -/

/-- Every invariant above. -/
def State.safe (s : State) : Prop :=
  s.tablesAgree ∧ s.recordsAgree ∧ s.boundsAgree ∧ s.holdersAgree ∧ s.baysHoldTwo ∧ s.oneFillEach ∧
  s.queueAgrees ∧ s.urgentFirst ∧ s.dockingsAgree ∧ s.latchesFollow ∧ s.linesAgree ∧ s.bindingsAgree ∧ s.probesAgree ∧ s.portsAgree ∧ s.plannerAgrees ∧
  s.referencesHold ∧ ∀ (k : Slot) (c : Comp), s.compAt k = some c → c.targetsAgree

end Sys2Proof.Machine
end

