-- ==== Sys2Proof/Certificates/Slice0/Obligations.lean ====
section
/-! DEFINITION. The statements about the model, for the provers: one Prop each, with the rules it formalises in its docstring.
Where a statement rests on a choice of the model, its docstring names the log entry. -/

open Sys2Proof Sys2Proof.Machine

/-! ### The machine: its step, reset, the reply, the frames -/

/-- The command at the front of the queue is executed with the queue's rest in place. -/
def Obligations.StepTakesFrontCommand : Prop :=
  ∀ (c : Instr) (rest : List Instr) (s : State),
    step { s with pending := c :: rest } = exec c { s with pending := rest }

/-- HARDWARE_RESET from any state (R23, R24, R28, R30, R32, R51, R88, R129, R130, R139, R142, R158, R171, R173). That the
waiting commands are kept is the model's choice (log entry 19). -/
def Obligations.HardwareResetLeaves : Prop :=
  ∀ s : State, ∃ t : State, exec .hardwareReset s = .next t ∧ t.pending = s.pending ∧
    (∀ k, t.tankerAt k = none) ∧ (∀ k, t.compAt k = none) ∧ t.queue = [] ∧ t.clock.toNat = 0 ∧
    t.catalogue = [] ∧ (∀ r c, t.matrixLevel r c = 6) ∧
    (∀ c, (t.classLimit c).conductivity = 100 ∧ (t.classLimit c).validityHours = 12) ∧
    (∀ n : Fin 6, t.programs[n] = []) ∧ (∀ a, t.armPort a = none) ∧
    t.scale = 64 ∧ t.offset = 0 ∧ (∀ p, t.probe p = none) ∧ t.lock = false ∧
    (∀ p, (t.port p).rx = .idle ∧ (t.port p).flags = ⟨false, false, false, false, false, false, false⟩ ∧
      (t.port p).limit = 128 ∧ (t.port p).denied = [] ∧ (t.port p).caps = ⟨false, false, false⟩ ∧
      t.role p = if p = .A then .office else .none) ∧
    (∀ l, (t.line l).mode = .input ∧ (t.line l).polarity = .high ∧ (t.line l).depth = 0 ∧
      (t.line l).func = none ∧ (t.line l).latch = false ∧ (t.line l).level = .unsettled) ∧
    (∀ f d, t.demand f = some d → d = false) ∧ t.attention = false

/-- Every invariant of Safety.lean holds right after reset (R23, R142 and the reset clauses of the other chapters). -/
def Obligations.ResetIsSafe : Prop := State.reset.safe

/-- R181, R182, R178: every request, whatever becomes of it, is answered with one reply on its own port: the type byte
holds the code with bit 7 set, the payload begins with the result, the flag byte and the detail; the flag byte holds the
link flags the port had and ATTENTION as the yard stands after the request; the port's flags are cleared. -/
def Obligations.EveryRequestIsAnswered : Prop :=
  ∀ (i : Instr) (r : ReqName) (p : Port) (args : List Byte) (s : State), i.request? = some (r, p, args) →
    ∃ t result flags detail data, exec i s = .next t ∧
      (t.port p).rx = .replying ⟨BitVec.ofNat 8 (r.code + 128), result :: flags :: detail :: data⟩ ∧
      flags.toNat = (s.port p).flags.bits + (if t.attention then 128 else 0) ∧
      (t.port p).flags = ⟨false, false, false, false, false, false, false⟩ ∧
      (∀ q, q ≠ p → (t.port q).rx = (s.port q).rx ∧ (t.port q).flags = (s.port q).flags ∧
        (t.port q).limit = (s.port q).limit)

/-- R172, R63, R169, R186: the payload of every reply to a request fits the port's reply limit. The premises are
invariants of the model: a limit from 96 to 240, and at most six steps in a plan. -/
def Obligations.ReplyFitsLimit : Prop :=
  ∀ (i : Instr) (r : ReqName) (p : Port) (args : List Byte) (s : State), i.request? = some (r, p, args) →
    s.portsAgree →
    (∀ (k : Slot) (c : Comp) (pl : Plan), s.compAt k = some c → c.st.plan = some pl → pl.steps.length ≤ 6) →
    ∃ t reply, exec i s = .next t ∧ (t.port p).rx = .replying reply ∧
      3 ≤ reply.payload.length ∧ reply.payload.length ≤ (t.port p).limit

/-- R163: a refused request changes nothing. Whatever request is answered with a refusal (0x41 to 0x59, R185) other than
TAG_MISMATCH (0x52, R113), the state differs only in the link of the requesting port. -/
def Obligations.RefusedRequestChangesNothing : Prop :=
  ∀ (i : Instr) (r : ReqName) (p : Port) (args : List Byte) (s t : State) (ty result : Byte) (rest : List Byte),
    i.request? = some (r, p, args) → exec i s = .next t →
    (t.port p).rx = .replying ⟨ty, result :: rest⟩ → 0x41 ≤ result.toNat → result.toNat ≠ 0x52 →
    t.setPort p { t.port p with rx := (s.port p).rx, flags := (s.port p).flags } = s

/-- R174, R176, R178: the bytes of the frame of any well-formed request, received one after another by its port in IDLE,
carry out exactly that request: the state after the last byte is the state the request command leads to. That the last byte
carries the request out in the same step, and that a request command stands for a request received and decoded, are the
model's choices (log entries 4 and 3). -/
def Obligations.FrameCarriesRequest : Prop :=
  ∀ (i : Instr) (r : ReqName) (p : Port) (args : List Byte) (s : State),
    i.request? = some (r, p, args) → i.wf = true → (s.port p).rx = .idle →
    exec i s = .next (i.frame.foldl (fun x b => receiveByte p b x) s)

/-- R176, R177, R178, R179, R180: what one byte does in each receive state: it joins the header or the payload while these
are not complete, and completes a header; a long frame whose payload check is wrong raises PAYLOAD, and a right frame with an
unknown code or a code in the wrong form raises CODE: both are answered with LINK and reach no block. -/
def Obligations.ByteReceivedByState : Prop :=
  ∀ (p : Port) (b : Byte) (s : State),
    ((s.port p).rx = .idle →
      exec (.byteReceived p b) s = .next (s.setPort p { s.port p with rx := .header [b] })) ∧
    (∀ got, (s.port p).rx = .header got → got.length < 3 →
      exec (.byteReceived p b) s = .next (s.setPort p { s.port p with rx := .header (got ++ [b]) })) ∧
    (∀ x y z, (s.port p).rx = .header [x, y, z] → b ≠ crc8 [x, y, z] →
      exec (.byteReceived p b) s = .next (s.setPort p
        { s.port p with rx := .discard none, flags := { (s.port p).flags with header := true } })) ∧
    (∀ x y z, (s.port p).rx = .header [x, y, z] → b = crc8 [x, y, z] → x.msb = true →
      (256 * y.toNat + z.toNat = 0 ∨ 240 < 256 * y.toNat + z.toNat) →
      exec (.byteReceived p b) s = .next (s.setPort p
        { s.port p with rx := .discard (some x), flags := { (s.port p).flags with length := true } })) ∧
    (∀ x y z, (s.port p).rx = .header [x, y, z] → b = crc8 [x, y, z] → x.msb = true →
      1 ≤ 256 * y.toNat + z.toNat → 256 * y.toNat + z.toNat ≤ 240 →
      exec (.byteReceived p b) s = .next (s.setPort p { s.port p with rx := .payload [x, y, z, b] })) ∧
    (∀ x y z h rest, (s.port p).rx = .payload (x :: y :: z :: h :: rest) →
      rest.length + 1 < 256 * y.toNat + z.toNat + 2 →
      exec (.byteReceived p b) s = .next (s.setPort p
        { s.port p with rx := .payload (x :: y :: z :: h :: rest ++ [b]) })) ∧
    (∀ owed, (s.port p).rx = .discard owed → exec (.byteReceived p b) s = .next s) ∧
    (∀ reply, (s.port p).rx = .replying reply →
      exec (.byteReceived p b) s = .next (s.setPort p
        { s.port p with flags := { (s.port p).flags with overrun := true } })) ∧
    ∀ (ty y z h : Byte) (body : List Byte) (c1 c2 : Byte),
      ((s.port p).rx = .payload (ty :: y :: z :: h :: body ++ [c1]) → body.length = 256 * y.toNat + z.toNat →
        ty.msb = true → [c1, c2] ≠ beBytes 2 (crc16 body).toNat →
        exec (.byteReceived p c2) s = .next ((s.setPort p
            { s.port p with flags := { (s.port p).flags with payload := true } }).reply p (ty.toNat % 128)
              ⟨.link, 0, []⟩)) ∧
      ((s.port p).rx = .payload (ty :: y :: z :: h :: body ++ [c1]) → body.length = 256 * y.toNat + z.toNat →
        ty.msb = true → [c1, c2] = beBytes 2 (crc16 body).toNat →
        (∀ r, ReqName.ofCode (ty.toNat % 128) = some r → r.isShort = true) →
        exec (.byteReceived p c2) s = .next ((s.setPort p
            { s.port p with flags := { (s.port p).flags with code := true } }).reply p (ty.toNat % 128)
              ⟨.link, 0, []⟩)) ∧
      ((s.port p).rx = .header [ty, y, z] → h = crc8 [ty, y, z] → ty.msb = false →
        (∀ r, ReqName.ofCode ty.toNat = some r → r.isShort = false) →
        exec (.byteReceived p h) s = .next ((s.setPort p
            { s.port p with flags := { (s.port p).flags with code := true } }).reply p ty.toNat ⟨.link, 0, []⟩))

/-- R177, R179, R180: a break, a gap, the end of DISCARD and the end of a reply in each receive state. That an event which
cannot occur in a state leaves it as it is, is the model's choice (log entry 6); that the port's OVERRUN flag tells whether
OVERRUN was raised during this REPLYING, is an inference (log entry 21). -/
def Obligations.LinkEventsByState : Prop :=
  ∀ (p : Port) (s : State),
    (∀ rx, (s.port p).rx = rx → (rx = .idle ∨ (∃ g, rx = .header g) ∨ ∃ g, rx = .payload g) →
      exec (.breakReceived p) s = .next (s.setPort p
        { s.port p with rx := .discard none, flags := { (s.port p).flags with brk := true } })) ∧
    (∀ owed, (s.port p).rx = .discard owed →
      exec (.breakReceived p) s = .next (s.setPort p
        { s.port p with flags := { (s.port p).flags with brk := true } })) ∧
    (∀ reply, (s.port p).rx = .replying reply →
      exec (.breakReceived p) s = .next (s.setPort p
        { s.port p with flags := { (s.port p).flags with brk := true, overrun := true } })) ∧
    (∀ rx, (s.port p).rx = rx → ((∃ g, rx = .header g) ∨ ∃ g, rx = .payload g) →
      exec (.gap p) s = .next (s.setPort p
        { s.port p with rx := .idle, flags := { (s.port p).flags with gap := true } })) ∧
    (∀ rx, (s.port p).rx = rx → (rx = .idle ∨ (∃ o, rx = .discard o) ∨ ∃ y, rx = .replying y) →
      exec (.gap p) s = .next s) ∧
    ((s.port p).rx = .discard none →
      exec (.discardEnd p) s = .next (s.setPort p { s.port p with rx := .idle })) ∧
    (∀ ty, (s.port p).rx = .discard (some ty) →
      exec (.discardEnd p) s = .next (s.reply p (ty.toNat % 128) ⟨.link, 0, []⟩)) ∧
    (∀ rx, (s.port p).rx = rx → (∀ o, rx ≠ .discard o) → exec (.discardEnd p) s = .next s) ∧
    (∀ reply, (s.port p).rx = .replying reply →
      exec (.replySent p) s = .next (s.setPort p
        { s.port p with rx := if (s.port p).flags.overrun then .discard none else .idle })) ∧
    (∀ rx, (s.port p).rx = rx → (∀ y, rx ≠ .replying y) → exec (.replySent p) s = .next s)

/-! ### The check chain -/

/-- R159, R162, R163, R165: the first three checks. A request that the port's role does not permit is answered with ROLE, and
one that its access map names with DENIED; nothing else is done, and port A never meets check 2. Check 3 holds the arguments
of each long-frame request without a compartment address against the ranges its rule states (R26, R29, R31, R33, R152, R157,
R160, R169): the first that is out of its range, or not carried whole, gives the detail; a payload that goes on gives the
number after the last; a payload with every argument in range is not refused with RANGE. REGISTER TANKER has the details of
R14 and R184; SET TIME and SET ACCESS MAP are in SetTimeLoadsTheClock and AccessMapAndReplyLimit. The order of two failures
at once (log entry 8), a FOOD flag above 1 (11), and REGISTER TANKER without a count (9) are inferences. -/
def Obligations.FirstThreeChecks : Prop :=
  (∀ (i : Instr) (r : ReqName) (p : Port) (args : List Byte) (s : State), i.request? = some (r, p, args) →
    (permitted r (s.role p) = false → exec i s = .next (s.reply p r.code ⟨.role, 0, []⟩)) ∧
    (permitted r (s.role p) = true → p ≠ .A → r ∈ (s.port p).denied →
      exec i s = .next (s.reply p r.code ⟨.denied, 0, []⟩))) ∧
  (∀ (fs : List Field) (payload : List Byte) (d : Nat), checkLong fs payload = .error d →
    (∃ pre f post vs rest, fs = pre ++ f :: post ∧ d = pre.length + 1 ∧
      takeFields pre [] payload = .ok (vs, rest) ∧
      (rest.length < f.width ∨ f.legal vs (beValue (rest.take f.width)) = false)) ∨
    (d = fs.length + 1 ∧ ∃ vs b rest, takeFields fs [] payload = .ok (vs, b :: rest))) ∧
  (∀ (r : ReqName) (p : Port) (s : State), r.addressed = false → s.admits p r → s.checksArguments r p) ∧
  (∀ (p : Port) (s : State), s.admits p .registerTanker →
    (∀ payload : List Byte,
      (payload.length ≤ 2 → exec (.registerTanker p payload) s = .next (s.reply p 0x20 ⟨.range, 7, []⟩)) ∧
      (3 ≤ payload.length → beValue (payload.take 2) = 0 →
        exec (.registerTanker p payload) s = .next (s.reply p 0x20 ⟨.range, 0, []⟩)) ∧
      (3 ≤ payload.length → beValue (payload.take 2) ≠ 0 →
        ((payload.getD 2 0).toNat = 0 ∨ 6 < (payload.getD 2 0).toNat ∨
          payload.length ≠ 3 + 4 * (payload.getD 2 0).toNat) →
        exec (.registerTanker p payload) s = .next (s.reply p 0x20 ⟨.range, 7, []⟩))) ∧
    (∀ (tag : Nat) (cs : List (Nat × Nat)) (payload : List Byte), 1 ≤ tag → tag ≤ 65535 → 1 ≤ cs.length →
      cs.length ≤ 6 → (∀ x ∈ cs, x.1 ≤ 65535 ∧ x.2 ≤ 65535) →
      payload = argBytes ([(2, tag), (1, cs.length)] ++ cs.flatMap fun x => [(2, x.1), (2, x.2)]) →
      (∀ pre x post, cs = pre ++ x :: post → (∀ y ∈ pre, tankerPairLegal y) → ¬ tankerPairLegal x →
        exec (.registerTanker p payload) s = .next (s.reply p 0x20 ⟨.range, pre.length + 1, []⟩)) ∧
      ((∀ x ∈ cs, tankerPairLegal x) →
        ∃ t ty result rest, exec (.registerTanker p payload) s = .next t ∧
          (t.port p).rx = .replying ⟨ty, result :: rest⟩ ∧ result ≠ 0x43)))

/-- R163, R165, R166: a request that carries a compartment address. Check 3 refuses it with RANGE, detail 1 for a tag of 0
or a payload that does not carry it whole, and detail 2 for an index outside 1 to 6 or one that is not carried; it holds the
arguments after the address against the ranges the request's rule states (R38, R66, R69, R92, R110, R118, R123). Checks 4 and
5 refuse it with NO_TANKER for a tag no tanker holds, and with NO_COMPARTMENT for an index above the tanker's count. That no
two tankers hold one tag is an invariant of the model (tablesAgree); which detail a payload with two failures at once gives is
an inference (log entry 8). -/
def Obligations.AddressChecked : Prop :=
  ∀ (r : ReqName) (p : Port) (s : State), r.addressed = true → s.admits p r →
    s.checksArguments r p ∧
    (∀ payload : List Byte,
      ((payload.length < 2 ∨ beValue (payload.take 2) = 0) →
        exec (r.command p payload) s = .next (s.reply p r.code ⟨.range, 1, []⟩)) ∧
      (2 ≤ payload.length → beValue (payload.take 2) ≠ 0 →
        (payload.length = 2 ∨ (payload.getD 2 0).toNat = 0 ∨ 6 < (payload.getD 2 0).toNat) →
        exec (r.command p payload) s = .next (s.reply p r.code ⟨.range, 2, []⟩))) ∧
    (∀ (tag index : Nat) (rest : List (Nat × Nat)), r.restLegal rest = true →
      1 ≤ tag → tag ≤ 65535 → 1 ≤ index → index ≤ 6 → s.tablesAgree →
      ((∀ t k, s.tankerAt t = some k → k.tag ≠ tag) →
        exec (r.command p (addressBytes tag index ++ argBytes rest)) s = .next (s.reply p r.code ⟨.noTanker, 0, []⟩)) ∧
      (∀ t k, s.tankerAt t = some k → k.tag = tag → k.count < index →
        exec (r.command p (addressBytes tag index ++ argBytes rest)) s =
          .next (s.reply p r.code ⟨.noCompartment, 0, []⟩)))

/-- R13, R163: check 6. A request that needs the hold is refused with NOT_HOLDER when nobody holds the compartment and
with HELD and the holder's letter when another port does; one that needs no holder is refused with HELD when any port
holds it, the requesting port included. -/
def Obligations.HolderChecked : Prop :=
  ∀ (r : ReqName) (p : Port) (s : State) (tag index : Nat) (rest : List (Nat × Nat)) (f : Found),
    r.restLegal rest = true → s.admits p r → s.names tag index f →
    (r.needsTheHold = true → f.comp.st.holder = none →
      exec (r.command p (addressBytes tag index ++ argBytes rest)) s = .next (s.reply p r.code ⟨.notHolder, 0, []⟩)) ∧
    (r.needsTheHold = true → ∀ h, f.comp.st.holder = some h → h ≠ p →
      exec (r.command p (addressBytes tag index ++ argBytes rest)) s =
        .next (s.reply p r.code ⟨.held, portLetter h, []⟩)) ∧
    (r.needsNobody = true → ∀ h, f.comp.st.holder = some h →
      exec (r.command p (addressBytes tag index ++ argBytes rest)) s =
        .next (s.reply p r.code ⟨.held, portLetter h, []⟩))

/-! ### The clock and the timers -/

/-- R130, R131, R80, R102: an advance raises the clock by 1 with wrap, and reaches every record: a running step counts one
active and one silence second, an unfrozen release loses one second, every other record stays. A record in which the advance
brings an expiry waits for its owner to take it (the model's choice, log entry 2). Nothing else changes. By the same choice,
what a record still owes from the advance before is done first: an advance does the same whether an expiry that is owed was
taken before it or not; a record whose timer has stopped since only loses the mark; and one that owes an advance without
standing at an expiry, as no record of a state that meets boundsAgree does, counts that earlier advance. -/
def Obligations.AdvanceReachesEveryRecord : Prop :=
  (∀ s : State, (∀ k c, s.compAt k = some c → c.advanceDue = false) →
    ∃ t : State, exec .yardClockAdvance s = .next t ∧ t.clock.toNat = (s.clock.toNat + 1) % 2 ^ 32 ∧ t.lastAdvance = t.clock ∧
      (∀ k, s.compAt k = none → t.compAt k = none) ∧
      (∀ k c, s.compAt k = some c →
        (∀ b pl h, c.st = .washing b pl h .active → pl.active + 1 < pl.current.maxActive → pl.silence + 1 < 60 →
          t.compAt k = some { c with
            st := .washing b { pl with active := pl.active + 1, silence := pl.silence + 1 } h .active }) ∧
        (∀ b pl h, c.st = .washing b pl h .active → (pl.current.maxActive ≤ pl.active + 1 ∨ 60 ≤ pl.silence + 1) →
          t.compAt k = some { c with advanceDue := true }) ∧
        (∀ b pl r, c.st = .released b pl r → r.frozen = false → 1 < r.remaining →
          t.compAt k = some { c with st := .released b pl { r with remaining := r.remaining - 1 } }) ∧
        (∀ b pl r, c.st = .released b pl r → r.frozen = false → r.remaining ≤ 1 →
          t.compAt k = some { c with advanceDue := true }) ∧
        ((∀ b pl h, c.st ≠ .washing b pl h .active) → (∀ b pl r, c.st = .released b pl r → r.frozen = true) →
          t.compAt k = some c)) ∧
      { t with clock := s.clock, lastAdvance := s.lastAdvance, comps := s.comps } = s) ∧
  (∀ (s u : State) (k : Slot),
    (exec (.silenceExpiry k) s = .next u → exec .yardClockAdvance s = exec .yardClockAdvance u) ∧
    (exec (.activeTimeExpiry k) s = .next u → exec .yardClockAdvance s = exec .yardClockAdvance u) ∧
    (exec (.releaseExpiry k) s = .next u → exec .yardClockAdvance s = exec .yardClockAdvance u)) ∧
  (∀ (s : State) (k : Slot) (c : Comp), s.compAt k = some c → c.advanceDue = true →
    (∀ b pl h, c.st = .washing b pl h .active → pl.active + 1 < pl.current.maxActive → pl.silence + 1 < 60 →
      exec .yardClockAdvance s = exec .yardClockAdvance (s.setComp k { c with
        st := .washing b { pl with active := pl.active + 1, silence := pl.silence + 1 } h .active
        advanceDue := false })) ∧
    (∀ b pl r, c.st = .released b pl r → r.frozen = false → 1 < r.remaining →
      exec .yardClockAdvance s = exec .yardClockAdvance (s.setComp k { c with
        st := .released b pl { r with remaining := r.remaining - 1 }
        advanceDue := false })) ∧
    ((∀ b pl h, c.st ≠ .washing b pl h .active) → (∀ b pl r, c.st = .released b pl r → r.frozen = true) →
      exec .yardClockAdvance s = exec .yardClockAdvance (s.setComp k { c with advanceDue := false })))

/-- R81, R82, R83, R103, R131: what a record that an advance has reached does at its expiry. Silence: STALLED(SILENCE),
silence seconds at 60, no fault, no incident. Overrun, whatever the silence seconds: below 3 faults it stalls with its hold
kept; at 3 it is BLOCKED(FAULTS) without its hold, its plan kept, and a BLOCKED incident captured with the bay's letter.
Release: it is removed, the compartment is WASHED, and a RELEASE_EXPIRED incident is captured with no port. A record that does
not owe that expiry takes none (R62, R85, R104). The mark that a record owes an advance and the clock value the incidents
carry are the model's (log entry 2); that an overrun below 3 faults leaves the silence seconds as the advance made them is an
inference (log entry 23). -/
def Obligations.ExpiriesAreTaken : Prop :=
  ∀ (s : State) (k : Slot) (c : Comp), s.compAt k = some c →
    (∀ (b : Booking) (pl : Plan) (h : Port),
      (c.st = .washing b pl h .active → c.advanceDue = true → pl.active + 1 < pl.current.maxActive → 59 ≤ pl.silence →
        exec (.silenceExpiry k) s = .next ((s.setComp k { c with
          st := .washing b { pl with active := pl.active + 1, silence := pl.silence + 1 } h (.stalled .silence)
          advanceDue := false }).driveLatches)) ∧
      (c.advanceDue = false → exec (.silenceExpiry k) s = .next s) ∧
      (c.st = .washing b pl h .active → pl.silence < 59 → exec (.silenceExpiry k) s = .next s) ∧
      (c.st.washPhase ≠ some .active → exec (.silenceExpiry k) s = .next s)) ∧
    (∀ (b : Booking) (pl : Plan) (h : Port),
      (c.st = .washing b pl h .active → c.advanceDue = true → pl.current.maxActive ≤ pl.active + 1 → c.faults < 2 →
        exec (.activeTimeExpiry k) s = .next ((s.setComp k { c with
          faults := c.faults + 1
          st := .washing b { pl with active := pl.active + 1, silence := pl.silence + 1 } h (.stalled .overrun)
          advanceDue := false }).driveLatches)) ∧
      (c.st = .washing b pl h .active → c.advanceDue = true → pl.current.maxActive ≤ pl.active + 1 → c.faults = 2 →
        exec (.activeTimeExpiry k) s = .next ((s.setComp k (Comp.capture { c with
          faults := 3
          st := .blockedFaults b (some { pl with active := pl.active + 1, silence := 0, mismatch := 0 })
          advanceDue := false } ⟨.blocked, s.lastAdvance, some h, 0⟩)).driveLatches)) ∧
      (c.advanceDue = false → exec (.activeTimeExpiry k) s = .next s) ∧
      (c.st = .washing b pl h .active → pl.active + 1 < pl.current.maxActive →
        exec (.activeTimeExpiry k) s = .next s) ∧
      (c.st.washPhase ≠ some .active → exec (.activeTimeExpiry k) s = .next s)) ∧
    (∀ b pl r, c.st = .released b pl r → c.advanceDue = true → r.frozen = false → r.remaining ≤ 1 →
      exec (.releaseExpiry k) s = .next ((s.setComp k (Comp.capture
        { c with st := .washed b pl, advanceDue := false }
        ⟨.releaseExpired, s.lastAdvance, none, 0⟩)).driveLatches)) ∧
    (c.advanceDue = false → exec (.releaseExpiry k) s = .next s) ∧
    (∀ b pl r, c.st = .released b pl r → (r.frozen = true ∨ 1 < r.remaining) → exec (.releaseExpiry k) s = .next s) ∧
    ((∀ b pl r, c.st ≠ .released b pl r) → exec (.releaseExpiry k) s = .next s)

/-- R132, R131: SET TIME loads the clock and reports the value before the load; no timer moves. A payload of another length
than four is refused with RANGE, detail 1. A release whose countdown ends at an advance is stamped with the clock value that
advance produced, also where a SET TIME is taken between the advance and the expiry (log entry 2). -/
def Obligations.SetTimeLoadsTheClock : Prop :=
  ∀ (s : State) (p : Port), s.admits p .setTime →
    (∀ v : ClockValue, exec (.setTime p (beBytes 4 v.toNat)) s =
      .next (({ s with clock := v } : State).reply p 0x10 ⟨.ok, 0, beBytes 4 s.clock.toNat⟩)) ∧
    (∀ payload : List Byte, payload.length ≠ 4 →
      exec (.setTime p payload) s = .next (s.reply p 0x10 ⟨.range, 1, []⟩)) ∧
    (∀ (k : Slot) (c : Comp) (b : Booking) (pl : Plan) (r : Release) (v : ClockValue), s.compAt k = some c →
      c.st = .released b pl r → r.frozen = false → r.remaining = 1 → c.advanceDue = false → c.incident = none →
      ∃ t u w d, exec .yardClockAdvance s = .next t ∧ exec (.setTime p (beBytes 4 v.toNat)) t = .next u ∧
        exec (.releaseExpiry k) u = .next w ∧ w.compAt k = some d ∧ d.st = .washed b pl ∧
        d.incident = some ⟨.releaseExpired, s.clock + 1, none, 0⟩ ∧ w.clock = v)

/-! ### Incidents, demands and lines -/

/-- R134, R136, R139: a capture stores the incident in an empty slot, and sets the overflow flag of a full one, whose
incident is kept. ACK INCIDENT returns the incident, empties the slot and clears the flag; the ALARM latch follows. An empty
slot refuses it with STATE. -/
def Obligations.IncidentsKeptUntilAcknowledged : Prop :=
  (∀ (c : Comp) (i : Incident),
    (c.incident = none → c.capture i = { c with incident := some i }) ∧
    (∀ old, c.incident = some old → c.capture i = { c with overflow := true })) ∧
  ∀ (s : State) (p : Port) (tag index : Nat) (f : Found), s.admits p .ackIncident → s.names tag index f →
    (∀ i, f.comp.incident = some i →
      exec (.ackIncident p (addressBytes tag index)) s = .next
        (((s.setComp f.slot { f.comp with incident := none, overflow := false }).driveLatches).reply p 0x24
          ⟨.ok, 0, beBytes 1 (incidentCode i.kind) ++ beBytes 4 i.time.toNat ++ beBytes 1 (portCode i.port)
            ++ beBytes 1 i.detail ++ [if f.comp.overflow then 1 else 0]⟩)) ∧
    (f.comp.incident = none →
      exec (.ackIncident p (addressBytes tag index)) s = .next (s.reply p 0x24 ⟨.state, stateCode f.comp.st, []⟩))

/-- R84, R125, R139: what the demands are; R149: driving the latches puts every bound output line at its demand and changes
nothing else. -/
def Obligations.LatchesAreDriven : Prop :=
  ∀ s : State,
    (∀ a, s.permitDemand a = true ↔ ∃ k c f, s.compAt k = some c ∧ c.st.fill = some (f, ⟨false, false, false⟩) ∧
      f.arm = a) ∧
    (∀ p, s.washEnableDemand p = true ↔ ∃ k c, s.compAt k = some c ∧ c.st.holder = some p ∧
      c.st.washPhase = some .active) ∧
    (s.alarmDemand = true ↔ ∃ k c, s.compAt k = some c ∧ c.incident ≠ none) ∧
    s.driveLatches.latchesFollow ∧ (∀ f, s.driveLatches.demand f = s.demand f) ∧
    (∀ l, { s.driveLatches.line l with latch := (s.line l).latch } = s.line l) ∧
    (∀ l, (∀ f d, (s.line l).func = some f → s.demand f ≠ some d) → s.driveLatches.line l = s.line l) ∧
    { s.driveLatches with lines := s.lines } = s

/-- R148: what an output line drives its pin to. -/
def Obligations.OutputDrivesItsPin : Prop :=
  ∀ (s : State) (l : LineNo), let x := s.line l
    (x.mode = .outputPushPull → s.pin l = if (x.polarity = .high ↔ x.latch = true) then .high else .low) ∧
    (x.mode = .outputOpen → s.pin l = if (x.polarity = .high ↔ x.latch = true) then .released else .low) ∧
    (x.mode ≠ .outputPushPull → x.mode ≠ .outputOpen → s.pin l = .undriven)

/-- R143, R144, R145: a sample of an input line. The first sample seeds the level without an event; an INPUT line follows each
sample; an INPUT_FILTERED line changes after depth consecutive samples at the opposite level. Only the line changes where
no event is handed on. That a sample of a line which is no input has no effect is the model's choice (log entry 7). -/
def Obligations.SampleFiltersTheLevel : Prop :=
  ∀ (s : State) (l : LineNo) (high : Bool) (lv : Level),
    lv = (if ((s.line l).polarity = .high ↔ high = true) then .active else .inactive) → let x := s.line l
    ((x.mode = .input ∨ x.mode = .inputFiltered) → x.level = .unsettled →
      exec (.inputSample l high) s = .next (s.setLine l { x with level := lv, run := 0 })) ∧
    (x.mode = .input → x.level ≠ .unsettled → lv = x.level → exec (.inputSample l high) s = .next s) ∧
    (x.mode = .input → x.level ≠ .unsettled → lv ≠ x.level →
      ∃ t : State, exec (.inputSample l high) s = .next t ∧ t.line l = { x with level := lv } ∧
        ((∀ a, x.func ≠ some (.ground a) ∧ x.func ≠ some (.overfill a)) → t = s.setLine l { x with level := lv })) ∧
    (x.mode = .inputFiltered → x.level ≠ .unsettled → lv = x.level →
      exec (.inputSample l high) s = .next (s.setLine l { x with run := 0 })) ∧
    (x.mode = .inputFiltered → x.level ≠ .unsettled → lv ≠ x.level → x.run + 1 < x.depth →
      exec (.inputSample l high) s = .next (s.setLine l { x with run := x.run + 1 })) ∧
    (x.mode = .inputFiltered → x.level ≠ .unsettled → lv ≠ x.level → x.depth ≤ x.run + 1 →
      ∃ t : State, exec (.inputSample l high) s = .next t ∧ t.line l = { x with level := lv, run := 0 } ∧
        ((∀ a, x.func ≠ some (.ground a) ∧ x.func ≠ some (.overfill a)) →
          t = s.setLine l { x with level := lv, run := 0 })) ∧
    (x.mode ≠ .input → x.mode ≠ .inputFiltered → exec (.inputSample l high) s = .next s)

/-- R119, R120, R121, R145: the level event of a GROUND line to INACTIVE, or of an OVERFILL line to ACTIVE, adds its cause
to the halt set of the fill on the arm and captures its incident with the holder's letter and the arm; the PERMIT latch
follows. Without a fill on the arm, and at the opposite event, only the line changes. -/
def Obligations.LineEventHaltsTheFill : Prop :=
  ∀ (s : State) (l : LineNo) (high : Bool) (a : Arm) (x y : Line), x = s.line l →
    (x.mode = .input ∨ x.mode = .inputFiltered ∧ x.depth ≤ x.run + 1) →
    y = { x with level := sampledLevel x.polarity high, run := if x.mode = .input then x.run else 0 } →
    (x.func = some (.ground a) → x.level = .active → y.level = .inactive →
      (s.fillOn a = none → exec (.inputSample l high) s = .next (s.setLine l y)) ∧
      (∀ k c b pl h r f hs, s.fillOn a = some (k, c) → c.st = .filling b pl h r f hs →
        exec (.inputSample l high) s = .next
          (((s.setLine l y).setComp k (Comp.capture
            { c with st := .filling b pl h r f { hs with ground := true } }
            ⟨.groundLost, s.clock, some h, a.val + 1⟩)).driveLatches))) ∧
    (x.func = some (.overfill a) → x.level = .inactive → y.level = .active →
      (s.fillOn a = none → exec (.inputSample l high) s = .next (s.setLine l y)) ∧
      (∀ k c b pl h r f hs, s.fillOn a = some (k, c) → c.st = .filling b pl h r f hs →
        exec (.inputSample l high) s = .next
          (((s.setLine l y).setComp k (Comp.capture
            { c with st := .filling b pl h r f { hs with overfill := true } }
            ⟨.overfillWet, s.clock, some h, a.val + 1⟩)).driveLatches))) ∧
    ((x.func = some (.ground a) ∧ x.level = .inactive ∧ y.level = .active ∨
        x.func = some (.overfill a) ∧ x.level = .active ∧ y.level = .inactive) →
      exec (.inputSample l high) s = .next (s.setLine l y))

/-- R147, R94: a conversion of an ANALOG line replaces its raw value, and a line bound to RINSE_PROBE hands it to the
port's probe record: raw × scale / 64 rounded down, plus the offset, limited to 0 to 20000, the pending mark cleared. That
a conversion of a line in another mode has no effect is the model's choice (log entry 7). -/
def Obligations.ConversionReachesTheProbe : Prop :=
  ∀ (s : State) (l : LineNo) (raw : BitVec 10), let x := s.line l
    (x.mode = .analog → (∀ p, x.func ≠ some (.rinseProbe p)) →
      exec (.analogConversion l raw) s = .next (s.setLine l { x with raw := some raw.toNat })) ∧
    (∀ p, x.mode = .analog → x.func = some (.rinseProbe p) → (s.probe p).isSome = true →
      ∃ t n, exec (.analogConversion l raw) s = .next t ∧
        t = (s.setLine l { x with raw := some raw.toNat }).setProbe p (some ⟨some ⟨raw.toNat, n⟩, false⟩) ∧
        (n : Int) = min (max ((raw.toNat * s.scale / 64 : Nat) + s.offset) 0) 20000) ∧
    (x.mode ≠ .analog → exec (.analogConversion l raw) s = .next s)

/-! ### The planner -/

/-- R24, R25, R26, R27: DEFINE PRODUCT with its arguments in range, and DELETE PRODUCT. The premise that the catalogue
stands by rising code is an invariant of the model (log entry 22). -/
def Obligations.CatalogueIsWritten : Prop :=
  (∀ (s : State) (p : Port) (e : Product) (payload : List Byte), s.admits p .defineProduct → s.plannerAgrees →
    (1 ≤ e.code ∧ e.code ≤ 9999) → 1 ≤ e.cls.val → e.minLevelAfter ≤ 6 → (80 ≤ e.fillPercent ∧ e.fillPercent ≤ 98) →
    payload = argBytes [(2, e.code), (1, e.cls.val), (1, if e.food then 1 else 0), (1, e.minLevelAfter),
      (1, e.fillPercent)] →
    (s.holdsCode e.code → exec (.defineProduct p payload) s = .next (s.reply p 0x11 ⟨.referenced, 0, []⟩)) ∧
    (¬ s.holdsCode e.code → s.product? e.code = none → s.catalogue.length = 128 →
      exec (.defineProduct p payload) s = .next (s.reply p 0x11 ⟨.full, 0, []⟩)) ∧
    (¬ s.holdsCode e.code → (s.product? e.code ≠ none ∨ s.catalogue.length < 128) →
      ∃ t : State, exec (.defineProduct p payload) s = .next (t.reply p 0x11 ⟨.ok, 0, beBytes 1 t.catalogue.length⟩) ∧
        (∀ code, t.product? code = if code = e.code then some e else s.product? code) ∧
        t.catalogue.length =
          (if s.product? e.code = none then s.catalogue.length + 1 else s.catalogue.length) ∧
        { t with catalogue := s.catalogue } = s)) ∧
  (∀ (s : State) (p : Port) (b1 b2 : Byte) (code : Nat), s.admits p .deleteProduct → s.plannerAgrees →
    code = 256 * b1.toNat + b2.toNat →
    ((code = 0 ∨ 9999 < code) → exec (.deleteProduct p b1 b2) s = .next (s.reply p 0x12 ⟨.range, 1, []⟩)) ∧
    (1 ≤ code → code ≤ 9999 → s.product? code = none →
      exec (.deleteProduct p b1 b2) s = .next (s.reply p 0x12 ⟨.unknownProduct, 0, []⟩)) ∧
    (1 ≤ code → code ≤ 9999 → s.product? code ≠ none → s.holdsCode code →
      exec (.deleteProduct p b1 b2) s = .next (s.reply p 0x12 ⟨.referenced, 0, []⟩)) ∧
    (1 ≤ code → code ≤ 9999 → s.product? code ≠ none → ¬ s.holdsCode code →
      ∃ t : State, exec (.deleteProduct p b1 b2) s = .next (t.reply p 0x12 ⟨.ok, 0, beBytes 1 t.catalogue.length⟩) ∧
        (∀ other, t.product? other = if other = code then none else s.product? other) ∧
        t.catalogue.length + 1 = s.catalogue.length ∧ { t with catalogue := s.catalogue } = s))

/-- R29, R31, R33: SET MATRIX ROW replaces all sixteen levels of the row, SET CLASS LIMIT the class's limit and validity,
DEFINE PROGRAM the whole step list of the level; each leaves everything else. -/
def Obligations.PlanningTablesAreWritten : Prop :=
  ∀ (s : State) (p : Port),
    (∀ (row : ClassNo) (levels : Vector Nat 16), s.admits p .setMatrixRow → (∀ c : ClassNo, levels[c] ≤ 7) →
      ∃ t : State, exec (.setMatrixRow p (beBytes 1 row.val ++ levels.toList.flatMap (beBytes 1))) s =
          .next (t.reply p 0x13 ⟨.ok, 0, []⟩) ∧
        (∀ r c, t.matrixLevel r c = if r = row then levels[c] else s.matrixLevel r c) ∧
        { t with matrix := s.matrix } = s) ∧
    (∀ (cls : ClassNo) (limit hours : Nat), s.admits p .setClassLimit → 1 ≤ limit → limit ≤ 20000 → 1 ≤ hours →
      hours ≤ 48 →
      ∃ t : State, exec (.setClassLimit p (argBytes [(1, cls.val), (2, limit), (1, hours)])) s =
          .next (t.reply p 0x15 ⟨.ok, 0, []⟩) ∧
        (∀ c, t.classLimit c = if c = cls then ⟨limit, hours⟩ else s.classLimit c) ∧
        { t with limits := s.limits } = s) ∧
    (∀ (level : Nat) (steps : List WashStep), s.admits p .defineProgram → 1 ≤ level → level ≤ 6 → 1 ≤ steps.length →
      steps.length ≤ 6 → (∀ st ∈ steps, st.legal) →
      ∃ t : State, exec (.defineProgram p (argBytes [(1, level), (1, steps.length)] ++ steps.flatMap stepArgs)) s =
          .next (t.reply p 0x14 ⟨.ok, 0, []⟩) ∧
        (∀ n : Fin 6, t.programs[n] = if n.val + 1 = level then steps else s.programs[n]) ∧
        { t with programs := s.programs } = s)

/-- R34: the derived level of a compartment for a booking. -/
def Obligations.DerivationFindsTheLevel : Prop :=
  ∀ (s : State) (c : Comp) (cls : ClassNo) (food : Bool),
    (c.last = none → s.derive c cls food = .level 6) ∧
    (∀ l, c.last = some l → s.matrixLevel l.cls cls = 7 → s.derive c cls food = .forbidden) ∧
    (∀ l after level, c.last = some l → s.matrixLevel l.cls cls ≠ 7 →
      ((l.code = 0 ∧ after = 0) ∨ (l.code ≠ 0 ∧ ∃ e, s.product? l.code = some e ∧ after = e.minLevelAfter)) →
      level = (if s.matrixLevel l.cls cls < after then after else s.matrixLevel l.cls cls) →
      s.derive c cls food =
        .level (if level = 0 ∧ food = true ∧ ∃ pl, c.st.plan = some pl ∧ pl.foodBay = false then 1 else level))

/-- R48, R49: where an entry joins the queue. With no NORMAL entry before an URGENT one, the tail of URGENT is before the
first NORMAL entry and the head of NORMAL after the last URGENT one; the tail of NORMAL is the end and the head of URGENT
position 1. -/
def Obligations.EntriesJoinTheirGroup : Prop :=
  ∀ (s : State) (e : Entry), s.urgentFirst →
    s.atTail .urgent e = s.queue.filter s.isUrgent ++ e :: s.queue.filter (fun x => !s.isUrgent x) ∧
    s.atTail .normal e = s.queue ++ [e] ∧ s.atHead .urgent e = e :: s.queue ∧
    s.atHead .normal e = s.queue.filter s.isUrgent ++ e :: s.queue.filter (fun x => !s.isUrgent x)

/-- R39, R44, R35, R36, R38: BOOK of an ARRIVED compartment and of a BLOCKED(FORBIDDEN) one, by its derivation. -/
def Obligations.BookFirstPlan : Prop :=
  ∀ (s : State) (p : Port) (tag index : Nat) (f : Found) (target : Nat) (pr : Priority) (cls : ClassNo)
    (payload : List Byte) (b : Booking), s.admits p .book → s.names tag index f →
    (f.comp.st = .arrived ∨ ∃ old, f.comp.st = .blockedForbidden old) → target ≤ 9999 →
    ((target = 0 ∧ cls = 0) ∨ (target ≠ 0 ∧ ∃ e, s.product? target = some e ∧ e.cls = cls)) →
    payload = addressBytes tag index ++ argBytes [(2, target), (1, priorityCode pr)] → b = ⟨target, cls, pr⟩ →
    (s.derive f.comp cls (s.foodTarget target) = .forbidden →
      exec (.book p payload) s = .next ((s.setComp f.slot { f.comp with st := .blockedForbidden b }).reply p 0x21
        ⟨.ok, 0, [9, 7, 0]⟩)) ∧
    (s.derive f.comp cls (s.foodTarget target) = .level 0 →
      exec (.book p payload) s = .next ((s.setComp f.slot { f.comp with
        st := .washed b ⟨0, [], 1, 0, 0, 0, 0, true, ⟨false, false, s.foodTarget target⟩⟩
        performed := 0 }).reply p 0x21 ⟨.ok, 0, [4, 0, 1]⟩)) ∧
    (∀ n, s.derive f.comp cls (s.foodTarget target) = .level n → 1 ≤ n → s.program n = [] →
      exec (.book p payload) s = .next (s.reply p 0x21 ⟨.noProgram, n, []⟩)) ∧
    (∀ n, s.derive f.comp cls (s.foodTarget target) = .level n → 1 ≤ n → s.program n ≠ [] →
      exec (.book p payload) s = .next ((s.enqueueTail f.slot f.comp b
        ⟨n, s.program n, 1, 0, 0, 0, 0, true, needsOf (s.program n) (s.foodTarget target)⟩).reply p 0x21
          ⟨.ok, 0, 2 :: beBytes 1 n ++ [1]⟩))

/-- R40, R48, R50: BOOK of a QUEUED compartment: out of the queue when FORBIDDEN or level 0; else its plan kept when the
level is the plan's and the food need is met, or made new; its entry keeps its place unless the priority changes. -/
def Obligations.BookQueuedCompartment : Prop :=
  ∀ (s : State) (p : Port) (tag index : Nat) (f : Found) (target : Nat) (pr : Priority) (cls : ClassNo)
    (payload : List Byte) (old b : Booking) (pl : Plan), s.admits p .book → s.names tag index f →
    f.comp.st = .queued old pl → target ≤ 9999 →
    ((target = 0 ∧ cls = 0) ∨ (target ≠ 0 ∧ ∃ e, s.product? target = some e ∧ e.cls = cls)) →
    payload = addressBytes tag index ++ argBytes [(2, target), (1, priorityCode pr)] → b = ⟨target, cls, pr⟩ →
    (s.derive f.comp cls (s.foodTarget target) = .forbidden →
      exec (.book p payload) s = .next (({ s with queue := s.queue.filter (· ≠ f.comp.entry) } : State).setComp f.slot
        { f.comp with st := .blockedForbidden b } |>.reply p 0x21 ⟨.ok, 0, [9, 7, 0]⟩)) ∧
    (s.derive f.comp cls (s.foodTarget target) = .level 0 →
      exec (.book p payload) s = .next (({ s with queue := s.queue.filter (· ≠ f.comp.entry) } : State).setComp f.slot
        { f.comp with
          st := .washed b ⟨0, [], 1, 0, 0, 0, 0, pl.foodBay, ⟨false, false, s.foodTarget target⟩⟩
          performed := 0 } |>.reply p 0x21 ⟨.ok, 0, [4, 0, 1]⟩)) ∧
    (∀ n npl outcome, s.derive f.comp cls (s.foodTarget target) = .level n → 1 ≤ n →
      ((n = pl.level ∧ (s.foodTarget target = true → pl.foodBay = true) ∧ outcome = 2 ∧
          npl = { pl with needs := needsOf pl.steps (s.foodTarget target) }) ∨
        (¬ (n = pl.level ∧ (s.foodTarget target = true → pl.foodBay = true)) ∧ s.program n ≠ [] ∧ outcome = 1 ∧
          npl = ⟨n, s.program n, 1, 0, 0, 0, 0, true, needsOf (s.program n) (s.foodTarget target)⟩)) →
      (pr = old.priority →
        exec (.book p payload) s = .next ((s.setComp f.slot { f.comp with st := .queued b npl }).reply p 0x21
          ⟨.ok, 0, 2 :: beBytes 1 n ++ beBytes 1 outcome⟩)) ∧
      (pr ≠ old.priority →
        exec (.book p payload) s = .next
          ((({ s with queue := s.queue.filter (· ≠ f.comp.entry) } : State).enqueueTail f.slot f.comp b npl).reply p
            0x21 ⟨.ok, 0, 2 :: beBytes 1 n ++ beBytes 1 outcome⟩))) ∧
    (∀ n, s.derive f.comp cls (s.foodTarget target) = .level n → 1 ≤ n →
      ¬ (n = pl.level ∧ (s.foodTarget target = true → pl.foodBay = true)) → s.program n = [] →
      exec (.book p payload) s = .next (s.reply p 0x21 ⟨.noProgram, n, []⟩))

/-- R41, R42, R43: BOOK of a WASHED compartment and of a RELEASED one. A release that covers the booking is kept with its
target changed and its countdown running on; otherwise the compartment is treated as WASHED and the release is gone. -/
def Obligations.BookWashedOrReleased : Prop :=
  ∀ (s : State) (p : Port) (tag index : Nat) (f : Found) (target : Nat) (pr : Priority) (cls : ClassNo)
    (payload : List Byte) (old b : Booking) (pl : Plan) (food : Bool), s.admits p .book → s.names tag index f →
    target ≤ 9999 →
    ((target = 0 ∧ cls = 0) ∨ (target ≠ 0 ∧ ∃ e, s.product? target = some e ∧ e.cls = cls)) →
    payload = addressBytes tag index ++ argBytes [(2, target), (1, priorityCode pr)] → b = ⟨target, cls, pr⟩ →
    food = s.foodTarget target →
    (∀ r n, f.comp.st = .released old pl r → s.derive f.comp cls food = .level n → n ≤ r.performed →
      r.conductivity ≤ (s.classLimit cls).conductivity → (food = true → r.foodBay = true) →
      exec (.book p payload) s = .next ((s.setComp f.slot { f.comp with
        st := .released b { pl with needs := needsOf pl.steps food } { r with target := target } }).reply p 0x21
          ⟨.ok, 0, 6 :: beBytes 1 n ++ [2]⟩)) ∧
    ((f.comp.st = .washed old pl ∨
        ∃ r, f.comp.st = .released old pl r ∧ ∀ n, s.derive f.comp cls food = .level n →
          r.performed < n ∨ (s.classLimit cls).conductivity < r.conductivity ∨ (food = true ∧ r.foodBay = false)) →
      (s.derive f.comp cls food = .forbidden →
        exec (.book p payload) s = .next ((s.setComp f.slot { f.comp with st := .blockedForbidden b }).reply p 0x21
          ⟨.ok, 0, [9, 7, 0]⟩)) ∧
      (∀ n, s.derive f.comp cls food = .level n → n ≤ f.comp.performed → (food = true → pl.foodBay = true) →
        exec (.book p payload) s = .next ((s.setComp f.slot { f.comp with
          st := .washed b { pl with needs := needsOf pl.steps food } }).reply p 0x21
            ⟨.ok, 0, 4 :: beBytes 1 n ++ [2]⟩)) ∧
      (∀ n, s.derive f.comp cls food = .level n →
        (f.comp.performed < n ∨ (food = true ∧ pl.foodBay = false)) →
        (s.program n = [] → exec (.book p payload) s = .next (s.reply p 0x21 ⟨.noProgram, n, []⟩)) ∧
        (s.program n ≠ [] →
          exec (.book p payload) s = .next ((s.enqueueTail f.slot f.comp b
            ⟨n, s.program n, 1, 0, 0, 0, 0, true, needsOf (s.program n) food⟩).reply p 0x21
              ⟨.ok, 0, 2 :: beBytes 1 n ++ [1]⟩))))

/-- R44, R38: BOOK of a BLOCKED(FAULTS) compartment, which stays so; and the refusals of a LOADED compartment and of a
target code without an entry. -/
def Obligations.BookBlockedAndRefused : Prop :=
  ∀ (s : State) (p : Port) (tag index : Nat) (f : Found) (target : Nat) (pr : Priority) (payload : List Byte),
    s.admits p .book → s.names tag index f → target ≤ 9999 →
    payload = addressBytes tag index ++ argBytes [(2, target), (1, priorityCode pr)] →
    (∀ q, f.comp.st = .loaded q → exec (.book p payload) s = .next (s.reply p 0x21 ⟨.state, 8, []⟩)) ∧
    (f.comp.st.holder = none → (∀ q, f.comp.st ≠ .loaded q) → target ≠ 0 → s.product? target = none →
      exec (.book p payload) s = .next (s.reply p 0x21 ⟨.unknownProduct, 0, []⟩)) ∧
    (∀ (cls : ClassNo) (old : Booking) (opl : Option Plan) (food : Bool), f.comp.st = .blockedFaults old opl →
      ((target = 0 ∧ cls = 0) ∨ (target ≠ 0 ∧ ∃ e, s.product? target = some e ∧ e.cls = cls)) →
      food = s.foodTarget target →
      (s.derive f.comp cls food = .forbidden →
        exec (.book p payload) s = .next ((s.setComp f.slot { f.comp with
          st := .blockedFaults ⟨target, cls, pr⟩ none }).reply p 0x21 ⟨.ok, 0, [9, 7, 0]⟩)) ∧
      (s.derive f.comp cls food = .level 0 →
        exec (.book p payload) s = .next ((s.setComp f.slot { f.comp with
          st := .blockedFaults ⟨target, cls, pr⟩ (some ⟨0, [], 1, 0, 0, 0, 0, opl.all (·.foodBay),
            ⟨false, false, food⟩⟩) }).reply p 0x21 ⟨.ok, 0, [9, 0, 1]⟩)) ∧
      (∀ n, s.derive f.comp cls food = .level n → 1 ≤ n →
        (s.program n = [] → exec (.book p payload) s = .next (s.reply p 0x21 ⟨.noProgram, n, []⟩)) ∧
        (s.program n ≠ [] →
          exec (.book p payload) s = .next ((s.setComp f.slot { f.comp with
            st := .blockedFaults ⟨target, cls, pr⟩
              (some ⟨n, s.program n, 1, 0, 0, 0, 0, true, needsOf (s.program n) food⟩) }).reply p 0x21
                ⟨.ok, 0, 9 :: beBytes 1 n ++ [1]⟩))))

/-- R46: UNBLOCK of a BLOCKED compartment: three fresh faults and a derivation for the booking it holds, with the outcomes
of R39; in any other state it is refused with STATE. -/
def Obligations.UnblockDerivesAgain : Prop :=
  ∀ (s : State) (p : Port) (tag index : Nat) (f : Found), s.admits p .unblock → s.names tag index f →
    (stateCode f.comp.st ≠ 9 →
      exec (.unblock p (addressBytes tag index)) s = .next (s.reply p 0x23 ⟨.state, stateCode f.comp.st, []⟩)) ∧
    (∀ (b : Booking) (opl : Option Plan) (food : Bool),
      (f.comp.st = .blockedForbidden b ∧ opl = none ∨ f.comp.st = .blockedFaults b opl) →
      food = s.foodTarget b.target →
      (s.derive f.comp b.cls food = .forbidden →
        exec (.unblock p (addressBytes tag index)) s = .next ((s.setComp f.slot { f.comp with
          st := .blockedForbidden b, faults := 0 }).reply p 0x23 ⟨.ok, 0, [9, 7, 0]⟩)) ∧
      (s.derive f.comp b.cls food = .level 0 →
        exec (.unblock p (addressBytes tag index)) s = .next ((s.setComp f.slot { f.comp with
          st := .washed b ⟨0, [], 1, 0, 0, 0, 0, opl.all (·.foodBay), ⟨false, false, food⟩⟩
          faults := 0, performed := 0 }).reply p 0x23 ⟨.ok, 0, [4, 0, 1]⟩)) ∧
      (∀ n, s.derive f.comp b.cls food = .level n → 1 ≤ n →
        (s.program n = [] →
          exec (.unblock p (addressBytes tag index)) s = .next (s.reply p 0x23 ⟨.noProgram, n, []⟩)) ∧
        (s.program n ≠ [] →
          exec (.unblock p (addressBytes tag index)) s = .next ((s.enqueueTail f.slot { f.comp with faults := 0 } b
            ⟨n, s.program n, 1, 0, 0, 0, 0, true, needsOf (s.program n) food⟩).reply p 0x23
              ⟨.ok, 0, 2 :: beBytes 1 n ++ [1]⟩))))

/-! ### Tankers and compartment records -/

/-- R14, R15, R2: REGISTER TANKER with its arguments in range: DUPLICATE, FULL, UNKNOWN_PRODUCT with the lowest index, or
the lowest free slot taken and a new ARRIVED record made for each compartment. The mark that an advance is owed is the model's
own field, and that a new record has it clear is the model's choice (log entry 2). -/
def Obligations.RegisterTankerMakesRecords : Prop :=
  ∀ (s : State) (p : Port) (tag : Nat) (cs : List (Nat × Nat)) (payload : List Byte), s.admits p .registerTanker →
    1 ≤ tag → tag ≤ 65535 → 1 ≤ cs.length → cs.length ≤ 6 →
    (∀ x ∈ cs, (500 ≤ x.1 ∧ x.1 ≤ 20000) ∧ (x.2 ≤ 9999 ∨ x.2 = 0xFFFF)) →
    payload = argBytes [(2, tag), (1, cs.length)] ++ cs.flatMap (fun x => argBytes [(2, x.1), (2, x.2)]) →
    ((∃ t k, s.tankerAt t = some k ∧ k.tag = tag) →
      exec (.registerTanker p payload) s = .next (s.reply p 0x20 ⟨.duplicate, 0, []⟩)) ∧
    ((∀ t k, s.tankerAt t = some k → k.tag ≠ tag) → (∀ t, s.tankerAt t ≠ none) →
      exec (.registerTanker p payload) s = .next (s.reply p 0x20 ⟨.full, 0, []⟩)) ∧
    (∀ i pre x post, (∀ t k, s.tankerAt t = some k → k.tag ≠ tag) → (∃ t, s.tankerAt t = none) →
      cs = pre ++ x :: post → i = pre.length + 1 → (∀ y ∈ pre, s.unknownCode y.2 = false) →
      x.2 ≠ 0 → x.2 ≠ 0xFFFF → s.product? x.2 = none →
      exec (.registerTanker p payload) s = .next (s.reply p 0x20 ⟨.unknownProduct, i, []⟩)) ∧
    (∀ t0, (∀ t k, s.tankerAt t = some k → k.tag ≠ tag) → s.tankerAt t0 = none →
      (∀ t, t.val < t0.val → s.tankerAt t ≠ none) →
      (∀ x ∈ cs, x.2 = 0 ∨ x.2 = 0xFFFF ∨ s.product? x.2 ≠ none) →
      ∃ t : State, exec (.registerTanker p payload) s = .next (t.reply p 0x20 ⟨.ok, 0, beBytes 1 t0.val⟩) ∧
        (∀ u, t.tankerAt u = if u = t0 then some ⟨tag, cs.length, s.clock, none⟩ else s.tankerAt u) ∧
        (∀ (j : Fin 6) (x : Nat × Nat), cs[j.val]? = some x →
          ∃ last, t.compAt (compSlot t0 (j.val + 1)) =
              some ⟨tag, j.val + 1, x.1, last, 0, 0, .arrived, none, none, false, false⟩ ∧
            (x.2 = 0xFFFF → last = none) ∧ (x.2 = 0 → last = some ⟨0, 0⟩) ∧
            (∀ e, x.2 ≠ 0 → x.2 ≠ 0xFFFF → s.product? x.2 = some e → last = some ⟨x.2, e.cls⟩)) ∧
        (∀ k : Slot, (∀ j : Fin 6, j.val < cs.length → k ≠ compSlot t0 (j.val + 1)) → t.compAt k = s.compAt k) ∧
        { t with tankers := s.tankers, comps := s.comps } = s)

/-- R16, R17: DEPART TANKER: NO_TANKER, HELD with the lowest held index, or the tanker, its records and its queue entries
removed and nothing else but the latches of lines whose demands fell. A tag of 0 is refused at check 4 (log entry 17). -/
def Obligations.DepartTankerRemovesAll : Prop :=
  ∀ (s : State) (p : Port) (b1 b2 : Byte) (tag : Nat), s.admits p .departTanker → s.tablesAgree →
    tag = 256 * b1.toNat + b2.toNat →
    ((∀ t k, s.tankerAt t = some k → k.tag ≠ tag) →
      exec (.departTanker p b1 b2) s = .next (s.reply p 0x25 ⟨.noTanker, 0, []⟩)) ∧
    (∀ (t : TankerSlot) (k : Tanker) (j : Fin 6) (c : Comp), s.tankerAt t = some k → k.tag = tag →
      s.compAt (compSlot t (j.val + 1)) = some c → c.st.holder ≠ none →
      (∀ (i : Fin 6) (d : Comp), i.val < j.val → s.compAt (compSlot t (i.val + 1)) = some d → d.st.holder = none) →
      exec (.departTanker p b1 b2) s = .next (s.reply p 0x25 ⟨.held, j.val + 1, []⟩)) ∧
    (∀ (t : TankerSlot) (k : Tanker), s.tankerAt t = some k → k.tag = tag →
      (∀ (j : Fin 6) (c : Comp), s.compAt (compSlot t (j.val + 1)) = some c → c.st.holder = none) →
      ∃ u : State, exec (.departTanker p b1 b2) s = .next (u.driveLatches.reply p 0x25 ⟨.ok, 0, []⟩) ∧
        (∀ x, u.tankerAt x = if x = t then none else s.tankerAt x) ∧
        (∀ j : Fin 6, u.compAt (compSlot t (j.val + 1)) = none) ∧
        (∀ x : Slot, (∀ j : Fin 6, x ≠ compSlot t (j.val + 1)) → u.compAt x = s.compAt x) ∧
        u.queue = s.queue.filter (fun e => e.tag ≠ tag) ∧
        { u with tankers := s.tankers, comps := s.comps, queue := s.queue } = s)

/-- R18, R51: CLEAR YARD from any state removes every record, empties the queue and lowers every demand; it keeps the
tables, roles, maps, arm map, configurations, lock, probes, clock and links. The latch of a line bound to an output
function falls, every other line stays. -/
def Obligations.ClearYardEmptiesTheYard : Prop :=
  ∀ (s : State) (p : Port) (b1 b2 : Byte), s.admits p .clearYard →
    ∃ t : State, exec (.clearYard p b1 b2) s = .next (t.reply p 0x1D ⟨.ok, 0, []⟩) ∧
      (∀ k, t.tankerAt k = none) ∧ (∀ k, t.compAt k = none) ∧ t.queue = [] ∧
      (∀ f d, t.demand f = some d → d = false) ∧ t.attention = false ∧
      (∀ l, (∀ a, (s.line l).func ≠ some (.permit a)) → (∀ q, (s.line l).func ≠ some (.washEnable q)) →
        (s.line l).func ≠ some .alarm → t.line l = s.line l) ∧
      (∀ l, ((∃ a, (s.line l).func = some (.permit a)) ∨ (∃ q, (s.line l).func = some (.washEnable q)) ∨
        (s.line l).func = some .alarm) → t.line l = { s.line l with latch := false }) ∧
      { t with tankers := s.tankers, comps := s.comps, queue := s.queue, lines := s.lines } = s

/-- R19, R20, R21: REVOKE by the compartment's state. A WASHING compartment goes back to the head of its group with its
progress; an INSPECTING or RELEASED one becomes WASHED; a FILLING one becomes LOADED, partial, with its new last product and
a FILL_REVOKED incident; any other is refused with STATE. -/
def Obligations.RevokeByState : Prop :=
  ∀ (s : State) (p : Port) (tag index : Nat) (f : Found), s.admits p .revoke → s.names tag index f →
    (∀ b pl h ph, f.comp.st = .washing b pl h ph →
      exec (.revoke p (addressBytes tag index)) s = .next
        (((s.enqueueHead f.slot f.comp b { pl with silence := 0, mismatch := 0 }).driveLatches).reply p 0x22
          ⟨.ok, 0, [2]⟩)) ∧
    (∀ b pl, ((∃ h, f.comp.st = .inspecting b pl h) ∨ ∃ r, f.comp.st = .released b pl r) →
      exec (.revoke p (addressBytes tag index)) s = .next
        ((s.setComp f.slot { f.comp with st := .washed b pl }).reply p 0x22 ⟨.ok, 0, [4]⟩)) ∧
    (∀ b pl h r fl hs e, f.comp.st = .filling b pl h r fl hs → s.product? fl.product = some e →
      exec (.revoke p (addressBytes tag index)) s = .next
        (((s.setComp f.slot (Comp.capture { f.comp with
            last := some ⟨fl.product, e.cls⟩
            st := .loaded ⟨fl.delivered, true⟩ } ⟨.fillRevoked, s.clock, some h, fl.arm.val + 1⟩)).driveLatches).reply p
          0x22 ⟨.ok, 0, [8]⟩)) ∧
    ((stateCode f.comp.st = 1 ∨ stateCode f.comp.st = 2 ∨ stateCode f.comp.st = 4 ∨ stateCode f.comp.st = 8 ∨
        stateCode f.comp.st = 9) →
      exec (.revoke p (addressBytes tag index)) s = .next (s.reply p 0x22 ⟨.state, stateCode f.comp.st, []⟩))

/-! ### The wash queue and the bays -/

/-- R55 to R58: NEXT WORK: FULL with two compartments held; the first eligible entry handed out, its compartment WASHING in
BETWEEN under the bay's hold and its tanker docked to the bay; EMPTY with its reason and the docked tag. The premises on the
tables are invariants of the model. -/
def Obligations.NextWorkHandsOutTheFirstEligible : Prop :=
  ∀ (s : State) (p : Port) (b1 b2 : Byte), s.admits p .nextWork →
    (2 ≤ (s.heldBy p).length → exec (.nextWork p b1 b2) s = .next (s.reply p 0x30 ⟨.full, 2, []⟩)) ∧
    (∀ pre e post f b pl, (s.heldBy p).length < 2 → s.tablesAgree → s.dockingsAgree → s.queue.Nodup →
      s.queue = pre ++ e :: post → (∀ x ∈ pre, ∀ g c ql, ¬ s.mayHandOut p x g c ql) → s.mayHandOut p e f b pl →
      ∃ t : State, exec (.nextWork p b1 b2) s = .next (t.reply p 0x30 ⟨.ok, 0,
          argBytes [(2, e.tag), (1, e.index), (1, pl.level), (1, pl.steps.length), (1, pl.index), (2, pl.dose),
            (2, pl.active), (1, priorityCode b.priority)] ++ pl.steps.flatMap stepArgs⟩) ∧
        t.queue = pre ++ post ∧
        (∀ k, t.compAt k = if k = f.slot then some { f.comp with st := .washing b pl p .between } else s.compAt k) ∧
        (∀ u, t.tankerAt u = if u = f.tslot then some { f.tanker with docked := some p } else s.tankerAt u) ∧
        { t with queue := s.queue, comps := s.comps, tankers := s.tankers } = s) ∧
    ((s.heldBy p).length < 2 → s.dockingsAgree →
      (∀ x ∈ s.queue, ∀ g c ql, ¬ s.mayHandOut p x g c ql) →
      (∀ t k, s.tankerAt t = some k → k.docked = some p →
        exec (.nextWork p b1 b2) s =
          .next (s.reply p 0x30 ⟨.empty, if s.queue = [] then 0 else 1, beBytes 2 k.tag⟩)) ∧
      ((∀ t k, s.tankerAt t = some k → k.docked ≠ some p) →
        exec (.nextWork p b1 b2) s =
          .next (s.reply p 0x30 ⟨.empty, if s.queue = [] then 0 else 2, beBytes 2 0⟩)))

/-- R61, R49, R54: GIVE BACK of a WASHING compartment in any phase: progress kept, silence and mismatch cleared, the entry at
the head of its group, the bay's latch following; the reply gives the entry's position. UNDOCK by the bay's condition. -/
def Obligations.GiveBackAndUndock : Prop :=
  (∀ (s : State) (p : Port) (tag index : Nat) (f : Found) (b : Booking) (pl : Plan) (ph : WashPhase),
    s.admits p .giveBack → s.names tag index f → f.comp.st = .washing b pl p ph →
    ∃ n, exec (.giveBack p (addressBytes tag index)) s = .next
        (((s.enqueueHead f.slot f.comp b { pl with silence := 0, mismatch := 0 }).driveLatches).reply p 0x33
          ⟨.ok, 0, 2 :: beBytes 1 n⟩) ∧
      (b.priority = .urgent → n = 1) ∧
      (b.priority = .normal → s.queueAgrees → s.urgentFirst → n = (s.queue.filter s.isUrgent).length + 1)) ∧
  (∀ (s : State) (p : Port) (b1 b2 : Byte), s.admits p .undock → s.dockingsAgree →
    ((∀ t k, s.tankerAt t = some k → k.docked ≠ some p) →
      exec (.undock p b1 b2) s = .next (s.reply p 0x34 ⟨.ok, 0, beBytes 2 0⟩)) ∧
    (∀ t k, s.tankerAt t = some k → k.docked = some p →
      (∀ j c, s.compAt j = some c → c.st.holder ≠ some p) →
      exec (.undock p b1 b2) s =
        .next ((s.setTanker t (some { k with docked := none })).reply p 0x34 ⟨.ok, 0, beBytes 2 k.tag⟩)) ∧
    (∀ t k j c, s.tankerAt t = some k → k.docked = some p → s.compAt j = some c → c.st.holder = some p →
      (∀ i d, s.compAt i = some d → d.st.holder = some p → c.index ≤ d.index) →
      exec (.undock p b1 b2) s = .next (s.reply p 0x34 ⟨.held, c.index, []⟩)))

/-- R66, R67, R68: STEP START. The dose is kept, the active seconds are kept below the step's maximum and 0 at it, silence
and mismatch are 0, the phase is ACTIVE and the bay's latch follows. That a mark of an earlier advance is cleared is the
model's choice (log entry 2). -/
def Obligations.StepStartSetsTheCounts : Prop :=
  ∀ (s : State) (p : Port) (tag index step : Nat) (f : Found) (b : Booking) (pl : Plan) (ph : WashPhase)
    (st : WashStep) (act : Nat) (payload : List Byte), s.admits p .stepStart → s.names tag index f →
    f.comp.st = .washing b pl p ph → 1 ≤ step → step ≤ 6 → payload = addressBytes tag index ++ argBytes [(1, step)] →
    (ph = .active → exec (.stepStart p payload) s = .next (s.reply p 0x31 ⟨.state, 3, []⟩)) ∧
    (ph ≠ .active → step ≠ pl.index →
      exec (.stepStart p payload) s = .next (s.reply p 0x31 ⟨.sequence, pl.index, []⟩)) ∧
    (ph ≠ .active → step = pl.index → pl.steps[pl.index - 1]? = some st →
      act = (if pl.active < st.maxActive then pl.active else 0) →
      exec (.stepStart p payload) s = .next (((s.setComp f.slot { f.comp with
        st := .washing b { pl with active := act, silence := 0, mismatch := 0 } p .active
        advanceDue := false }).driveLatches).reply p 0x31 ⟨.ok, 0,
          argBytes [(1, pl.index), (1, mediumCode st.medium), (2, st.dReq), (2, pl.dose), (2, act),
            (2, st.maxActive - act), (1, f.comp.faults)]⟩))

/-- R69 to R79, R85: a WASH SAMPLE of a running step, stage by stage: clamp, silence, medium, gates, increment, completion of
the step or of the plan with the food-bay rule; and its refusal in BETWEEN and STALLED. Where the record owed an advance, the
sample is taken first: a step that runs on below its maximum takes the advance after it, one active and one silence second,
an overrun stays owed, and a step that the sample ends owes nothing. The mark that an advance is owed, and that the advance
is taken at once, are the model's choice (log entry 2). That the bits of the notes which R183 does not name are 0 is the
model's choice (log entry 26). -/
def Obligations.WashSampleEarnsDose : Prop :=
  ∀ (s : State) (p : Port) (tag index t T F : Nat) (m : Medium) (f : Found) (b : Booking) (pl : Plan)
    (ph : WashPhase) (st : WashStep) (t' T' F' cl w inc dose late : Nat) (food owes : Bool) (payload : List Byte),
    s.admits p .washSample → s.names tag index f → f.comp.st = .washing b pl p ph →
    t ≤ 255 → T ≤ 65535 → F ≤ 65535 →
    payload = addressBytes tag index ++ argBytes [(1, t), (2, T), (2, F), (1, mediumCode m)] →
    t' = min t 30 → T' = min T 1500 → F' = min F 600 → cl = (if 30 < t ∨ 1500 < T ∨ 600 < F then 1 else 0) →
    w = 16 * 2 ^ min ((T' - st.tMin) / 100) 3 → inc = t' * w → dose = min (pl.dose + inc) 65535 →
    food = (pl.foodBay && (s.capsOf p).food) →
    late = (if f.comp.advanceDue = true ∧ pl.active + 1 < st.maxActive then 1 else 0) →
    owes = (f.comp.advanceDue && decide (st.maxActive ≤ pl.active + 1)) →
    (ph ≠ .active → exec (.washSample p payload) s = .next (s.reply p 0x32 ⟨.state, 3, []⟩)) ∧
    (ph = .active → pl.steps[pl.index - 1]? = some st →
      (m ≠ st.medium → pl.mismatch + 1 < 3 →
        exec (.washSample p payload) s = .next (((s.setComp f.slot { f.comp with
          st := .washing b { pl with active := pl.active + late, silence := late, mismatch := pl.mismatch + 1 } p .active
          advanceDue := owes }).driveLatches).reply p
          0x32 ⟨.ok, 0, argBytes [(1, cl + 2), (1, 0), (2, 0), (2, pl.dose), (1, pl.mismatch + 1), (1, 3), (1, 2),
            (1, pl.index)]⟩)) ∧
      (m ≠ st.medium → 3 ≤ pl.mismatch + 1 →
        exec (.washSample p payload) s = .next (((s.setComp f.slot { f.comp with
          st := .washing b { pl with silence := 0, mismatch := pl.mismatch + 1 } p (.stalled .medium)
          advanceDue := false }).driveLatches).reply p
          0x32 ⟨.ok, 0, argBytes [(1, cl + 2), (1, 0), (2, 0), (2, pl.dose), (1, pl.mismatch + 1), (1, 3), (1, 5),
            (1, pl.index)]⟩)) ∧
      (m = st.medium → (T' < st.tMin ∨ F' < st.fMin ∨ t' = 0) →
        exec (.washSample p payload) s = .next ((s.setComp f.slot { f.comp with
          st := .washing b { pl with active := pl.active + late, silence := late, mismatch := 0 } p .active
          advanceDue := owes }).reply p
          0x32 ⟨.ok, 0, argBytes [(1, cl + 4), (1, 0), (2, 0), (2, pl.dose), (1, 0), (1, 3), (1, 2), (1, pl.index)]⟩)) ∧
      (m = st.medium → st.tMin ≤ T' → st.fMin ≤ F' → t' ≠ 0 → dose < st.dReq →
        exec (.washSample p payload) s = .next ((s.setComp f.slot { f.comp with
          st := .washing b { pl with active := pl.active + late, silence := late, mismatch := 0, dose := dose } p .active
          advanceDue := owes }).reply p
          0x32 ⟨.ok, 0, argBytes [(1, cl), (1, w), (2, inc), (2, dose), (1, 0), (1, 3), (1, 2), (1, pl.index)]⟩)) ∧
      (m = st.medium → st.tMin ≤ T' → st.fMin ≤ F' → t' ≠ 0 → st.dReq ≤ dose → pl.index < pl.steps.length →
        exec (.washSample p payload) s = .next (((s.setComp f.slot { f.comp with
          st := .washing b
            ⟨pl.level, pl.steps, pl.index + 1, 0, 0, 0, 0, food, pl.needs⟩ p .between
          advanceDue := false }).driveLatches).reply p
          0x32 ⟨.done, 0, argBytes [(1, cl), (1, w), (2, inc), (2, dose), (1, 0), (1, 3), (1, 1),
            (1, pl.index + 1)]⟩)) ∧
      (m = st.medium → st.tMin ≤ T' → st.fMin ≤ F' → t' ≠ 0 → st.dReq ≤ dose → pl.steps.length ≤ pl.index →
        exec (.washSample p payload) s = .next (((s.setComp f.slot { f.comp with
          st := .washed b { pl with dose := dose, silence := 0, mismatch := 0, foodBay := food }
          performed := pl.level
          advanceDue := false }).driveLatches).reply p
          0x32 ⟨.done, 0, argBytes [(1, cl), (1, w), (2, inc), (2, dose), (1, 0), (1, 4), (1, 0), (1, pl.index)]⟩)))

/-! ### Inspection -/

/-- R89, R90, R91: INSPECT BEGIN of a WASHED compartment takes the hold and reports what to check against, any other state
without a holder is refused with STATE; INSPECT CANCEL drops the hold and leaves WASHED. That bits 7 to 2 of the probe byte
(R186) are 0 is the model's choice (log entry 26). -/
def Obligations.InspectBeginAndCancel : Prop :=
  ∀ (s : State) (p : Port) (tag index : Nat) (f : Found) (b : Booking) (pl : Plan), s.names tag index f →
    s.bindingsAgree →
    (∀ probe, s.admits p .inspectBegin → f.comp.st = .washed b pl →
      ((∀ l, (s.line l).func ≠ some (.rinseProbe p)) → probe = 0) →
      (∀ x r, s.probe p = some x → x.reading = some r → x.pendingMark = false → probe = 3) →
      (∀ x, s.probe p = some x → (x.reading = none ∨ x.pendingMark = true) → probe = 1) →
      exec (.inspectBegin p (addressBytes tag index)) s = .next
        ((s.setComp f.slot { f.comp with st := .inspecting b pl p }).reply p 0x40 ⟨.ok, 0,
          argBytes [(2, b.target), (1, b.cls.val), (2, (s.classLimit b.cls).conductivity),
            (1, (s.classLimit b.cls).validityHours), (1, f.comp.performed), (1, if pl.foodBay then 1 else 0),
            (1, probe)]⟩)) ∧
    (s.admits p .inspectBegin → f.comp.st.holder = none → stateCode f.comp.st ≠ 4 →
      exec (.inspectBegin p (addressBytes tag index)) s = .next (s.reply p 0x40 ⟨.state, stateCode f.comp.st, []⟩)) ∧
    (s.admits p .inspectCancel → f.comp.st = .inspecting b pl p →
      exec (.inspectCancel p (addressBytes tag index)) s = .next
        ((s.setComp f.slot { f.comp with st := .washed b pl }).reply p 0x42 ⟨.ok, 0, [4]⟩))

/-- R92, R93, R95 to R101: INSPECT RESULT of a compartment the port is inspecting: SETTLING, or a decision by the verdict and
the conductivity used, a pass with its release, a rewash, a level-0 fail or a block. Detail 1 of SETTLING stands where both
reasons hold (log entry 10, an inference). That a pass clears the mark of an earlier advance is the model's choice (log entry
2). That the bits of the notes which R183 does not name are 0 is the model's choice (log entry 26). -/
def Obligations.InspectResultDecides : Prop :=
  ∀ (s : State) (p : Port) (tag index v cond ctag : Nat) (f : Found) (b : Booking) (pl : Plan) (r : Reading)
    (lim : ClassLimit) (head : Nat → Nat → List (Nat × Nat)) (payload : List Byte),
    s.admits p .inspectResult → s.names tag index f → s.bindingsAgree → f.comp.st = .inspecting b pl p →
    (v = 1 ∨ v = 2) → cond ≤ 65535 → 1 ≤ ctag → ctag ≤ 999999 →
    payload = addressBytes tag index ++ argBytes [(1, v), (2, cond), (3, ctag)] → lim = s.classLimit b.cls →
    (∀ x, s.probe p = some x → x.pendingMark = true →
      exec (.inspectResult p payload) s = .next (s.reply p 0x41 ⟨.settling, 1, []⟩)) ∧
    (∀ x, s.probe p = some x → x.pendingMark = false → x.reading = none →
      exec (.inspectResult p payload) s = .next (s.reply p 0x41 ⟨.settling, 2, []⟩)) ∧
    (((∀ l, (s.line l).func ≠ some (.rinseProbe p)) ∧ r = ⟨min cond 20000, .reported⟩ ∨
        ∃ x y, s.probe p = some x ∧ x.pendingMark = false ∧ x.reading = some y ∧ r = ⟨y.conductivity, .probe⟩) →
      (∀ state faults, head state faults =
        [(1, if v = 1 ∧ r.conductivity ≤ lim.conductivity then 1 else 2), (1, if 20000 < cond then 1 else 0),
          (2, r.conductivity), (1, sourceCode r.source), (2, lim.conductivity), (1, state), (1, faults)]) →
      (v = 1 → r.conductivity ≤ lim.conductivity →
        exec (.inspectResult p payload) s = .next ((s.setComp f.slot { f.comp with
          reading := some r
          st := .released b pl ⟨b.target, f.comp.performed, pl.foodBay, r.conductivity, ctag, s.clock,
            lim.validityHours * 3600, false⟩
          advanceDue := false }).reply p 0x41 ⟨.ok, 0, argBytes (head 6 f.comp.faults ++
            [(4, s.clock.toNat), (3, lim.validityHours * 3600)])⟩)) ∧
      ((v = 2 ∨ lim.conductivity < r.conductivity) → f.comp.faults < 2 → pl.steps ≠ [] →
        ∃ n, exec (.inspectResult p payload) s = .next ((s.enqueueTail f.slot
          { f.comp with reading := some r, faults := f.comp.faults + 1, performed := 0 }
          { b with priority := .urgent }
          { pl with index := 1, dose := 0, active := 0, silence := 0, mismatch := 0, foodBay := true }).reply p 0x41
            ⟨.ok, 0, argBytes (head 2 (f.comp.faults + 1) ++ [(1, n)])⟩) ∧
          (s.queueAgrees → s.urgentFirst → n = (s.queue.filter s.isUrgent).length + 1)) ∧
      ((v = 2 ∨ lim.conductivity < r.conductivity) → f.comp.faults < 2 → pl.steps = [] →
        exec (.inspectResult p payload) s = .next ((s.setComp f.slot { f.comp with
          reading := some r, faults := f.comp.faults + 1, st := .washed b pl }).reply p 0x41
            ⟨.ok, 0, argBytes (head 4 (f.comp.faults + 1) ++ [(1, 0)])⟩)) ∧
      ((v = 2 ∨ lim.conductivity < r.conductivity) → f.comp.faults = 2 →
        exec (.inspectResult p payload) s = .next (((s.setComp f.slot (Comp.capture { f.comp with
          reading := some r, faults := 3, performed := 0, st := .blockedFaults b (some pl) }
          ⟨.blocked, s.clock, some p, 0⟩)).driveLatches).reply p 0x41
            ⟨.ok, 0, argBytes (head 9 3 ++ [(1, 0)])⟩)))

/-! ### Filling -/

/-- R108, R109: MAP ARM to a FILL port or to none; IN_USE with the holder's letter while the arm has a fill; RANGE for an
arm outside 1 to 4 and for a port whose role is not FILL. The reply says whether the arm is now equipped. -/
def Obligations.MapArmUnlessInUse : Prop :=
  ∀ (s : State) (p : Port) (b1 b2 : Byte) (a : Arm) (q : Option Port) (eq : Nat), s.admits p .mapArm →
    ((b1.toNat = 0 ∨ 4 < b1.toNat) → exec (.mapArm p b1 b2) s = .next (s.reply p 0x1C ⟨.range, 1, []⟩)) ∧
    (b1.toNat = a.val + 1 → b2 ≠ 0 → (∀ x, x ≠ .A → b2.toNat = portLetter x → s.role x ≠ .fill) →
      exec (.mapArm p b1 b2) s = .next (s.reply p 0x1C ⟨.range, 2, []⟩)) ∧
    (b1.toNat = a.val + 1 → b2.toNat = portCode q → (∀ x, q = some x → x ≠ .A ∧ s.role x = .fill) →
      (∀ k c f h x, s.oneFillEach → s.compAt k = some c → c.st.fill = some (f, h) → f.arm = a → c.st.holder = some x →
        exec (.mapArm p b1 b2) s = .next (s.reply p 0x1C ⟨.inUse, portLetter x, []⟩)) ∧
      ((∀ k c f h, s.compAt k = some c → c.st.fill = some (f, h) → f.arm ≠ a) →
        (eq = 1 ↔ q ≠ none ∧ (∃ l, (s.line l).func = some (.ground a)) ∧ (∃ l, (s.line l).func = some (.permit a)) ∧
          s.lock = true) → (eq = 0 ∨ eq = 1) →
        ∃ t : State, exec (.mapArm p b1 b2) s = .next (t.reply p 0x1C ⟨.ok, 0, [b2] ++ beBytes 1 eq⟩) ∧
          (∀ x, t.armPort x = if x = a then q else s.armPort x) ∧ { t with armMap := s.armMap } = s))

/-- R109 to R115, R116: FILL BEGIN's own checks in their order, and the accepted fill. -/
def Obligations.FillBeginChecksAndStarts : Prop :=
  ∀ (s : State) (p : Port) (tag index product ctag : Nat) (a : Arm) (f : Found) (payload : List Byte),
    s.admits p .fillBegin → s.names tag index f → s.bindingsAgree → s.oneFillEach → f.comp.st.holder = none →
    1 ≤ product → product ≤ 9999 → 1 ≤ ctag → ctag ≤ 999999 →
    payload = addressBytes tag index ++ argBytes [(1, a.val + 1), (2, product), (3, ctag)] →
    (s.armPort a ≠ some p → exec (.fillBegin p payload) s = .next (s.reply p 0x50 ⟨.notEquipped, 1, []⟩)) ∧
    (s.armPort a = some p → (∀ l, (s.line l).func ≠ some (.ground a)) →
      exec (.fillBegin p payload) s = .next (s.reply p 0x50 ⟨.notEquipped, 2, []⟩)) ∧
    (∀ g, s.armPort a = some p → (s.line g).func = some (.ground a) →
      ((∀ l, (s.line l).func ≠ some (.permit a)) →
        exec (.fillBegin p payload) s = .next (s.reply p 0x50 ⟨.notEquipped, 3, []⟩)) ∧
      (∀ m, (s.line m).func = some (.permit a) →
        (s.lock = false → exec (.fillBegin p payload) s = .next (s.reply p 0x50 ⟨.notEquipped, 4, []⟩)) ∧
        (s.lock = true →
          (∀ k c fl h, s.compAt k = some c → c.st.fill = some (fl, h) → fl.arm = a →
            exec (.fillBegin p payload) s = .next (s.reply p 0x50 ⟨.busy, c.index, beBytes 2 c.tag⟩)) ∧
          ((∀ k c fl h, s.compAt k = some c → c.st.fill = some (fl, h) → fl.arm ≠ a) →
            (stateCode f.comp.st ≠ 6 →
              exec (.fillBegin p payload) s = .next (s.reply p 0x50 ⟨.state, stateCode f.comp.st, []⟩)) ∧
            (∀ b pl r, f.comp.st = .released b pl r →
              (product ≠ r.target →
                exec (.fillBegin p payload) s = .next (s.reply p 0x50 ⟨.productMismatch, 0, []⟩)) ∧
              (product = r.target → ctag ≠ r.closureTag →
                exec (.fillBegin p payload) s = .next (((s.setComp f.slot (Comp.capture
                  { f.comp with st := .washed b pl }
                  ⟨.tagMismatch, s.clock, some p, a.val + 1⟩)).driveLatches).reply p 0x50 ⟨.tagMismatch, 0, []⟩)) ∧
              (product = r.target → ctag = r.closureTag → (s.line g).level ≠ .active →
                exec (.fillBegin p payload) s = .next (s.reply p 0x50 ⟨.unbonded, a.val + 1, []⟩)) ∧
              (∀ o, product = r.target → ctag = r.closureTag → (s.line g).level = .active →
                (s.line o).func = some (.overfill a) → (s.line o).level ≠ .inactive →
                exec (.fillBegin p payload) s = .next (s.reply p 0x50 ⟨.overfill, a.val + 1, []⟩)) ∧
              (∀ e limit, product = r.target → ctag = r.closureTag → (s.line g).level = .active →
                (∀ o, (s.line o).func = some (.overfill a) → (s.line o).level = .inactive) →
                s.product? product = some e → limit = f.comp.capacity * e.fillPercent / 100 / 10 * 10 →
                exec (.fillBegin p payload) s = .next (((s.setComp f.slot { f.comp with
                  st := .filling b pl p { r with frozen := true } ⟨a, product, limit, 0⟩
                    ⟨false, false, false⟩ }).driveLatches).reply p 0x50 ⟨.ok, 0,
                      argBytes [(1, a.val + 1), (2, product), (2, limit), (2, 0), (3, r.remaining)]⟩)))))))

/-- R118, R117: FILL VOLUME: the count clamped, held back and stored; at the fill limit LIMIT joins the halt set and is the
result; the PERMIT latch follows. That the bits of the notes which R183 does not name are 0 is the model's choice (log entry
26). -/
def Obligations.FillVolumeStoresTheCount : Prop :=
  ∀ (s : State) (p : Port) (tag index sent count : Nat) (f : Found) (b : Booking) (pl : Plan) (r : Release)
    (fl : Fill) (h g : HaltSet) (payload : List Byte), s.admits p .fillVolume → s.names tag index f →
    f.comp.st = .filling b pl p r fl h → sent < 2 ^ 32 →
    payload = addressBytes tag index ++ argBytes [(4, sent)] →
    count = (if min sent 65535 < fl.delivered then fl.delivered else min sent 65535) →
    g = (if fl.limit ≤ count then { h with limit := true } else h) →
    exec (.fillVolume p payload) s = .next (((s.setComp f.slot { f.comp with
      st := .filling b pl p r { fl with delivered := count } g }).driveLatches).reply p 0x51
        ⟨if fl.limit ≤ count then .limit else .ok, 0,
          argBytes [(1, (if 65535 < sent then 1 else 0) + (if min sent 65535 < fl.delivered then 8 else 0)),
            (2, count), (2, fl.limit), (2, fl.limit - count),
            (1, if g = ⟨false, false, false⟩ then 0x10 else 0x20 + haltBits g)]⟩)

/-- R122: FILL RESUME: STATE in FLOWING; LIMIT when LIMIT is in the set; UNBONDED or OVERFILL, with both causes that hold
still, when the arm's lines still show them; else FLOWING again with the PERMIT latch following. That an UNSETTLED line, or
an arm without the line, holds no cause is an inference (log entry 15). That the bits of the causes byte (R186) other than 1
and 2 are 0 is the model's choice (log entry 26). -/
def Obligations.FillResumeTestsTheLines : Prop :=
  ∀ (s : State) (p : Port) (tag index : Nat) (f : Found) (b : Booking) (pl : Plan) (r : Release) (fl : Fill)
    (h : HaltSet), s.admits p .fillResume → s.names tag index f → s.bindingsAgree →
    f.comp.st = .filling b pl p r fl h →
    (h = ⟨false, false, false⟩ →
      exec (.fillResume p (addressBytes tag index)) s = .next (s.reply p 0x52 ⟨.state, 7, []⟩)) ∧
    (h.limit = true →
      exec (.fillResume p (addressBytes tag index)) s =
        .next (s.reply p 0x52 ⟨.limitRefused, fl.arm.val + 1, []⟩)) ∧
    (∀ wet : Bool, h.limit = false → h.ground = true →
      (∃ g, (s.line g).func = some (.ground fl.arm) ∧ (s.line g).level = .inactive) →
      (wet = true ↔ h.overfill = true ∧ ∃ o, (s.line o).func = some (.overfill fl.arm) ∧ (s.line o).level = .active) →
      exec (.fillResume p (addressBytes tag index)) s =
        .next (s.reply p 0x52 ⟨.unbonded, fl.arm.val + 1, [if wet then 6 else 2]⟩)) ∧
    (h.limit = false →
      (h.ground = false ∨ ∀ g, (s.line g).func = some (.ground fl.arm) → (s.line g).level ≠ .inactive) →
      h.overfill = true → (∃ o, (s.line o).func = some (.overfill fl.arm) ∧ (s.line o).level = .active) →
      exec (.fillResume p (addressBytes tag index)) s =
        .next (s.reply p 0x52 ⟨.overfill, fl.arm.val + 1, [4]⟩)) ∧
    (h ≠ ⟨false, false, false⟩ → h.limit = false →
      (h.ground = false ∨ ∀ g, (s.line g).func = some (.ground fl.arm) → (s.line g).level ≠ .inactive) →
      (h.overfill = false ∨ ∀ o, (s.line o).func = some (.overfill fl.arm) → (s.line o).level ≠ .active) →
      exec (.fillResume p (addressBytes tag index)) s = .next (((s.setComp f.slot { f.comp with
        st := .filling b pl p r fl ⟨false, false, false⟩ }).driveLatches).reply p 0x52
          ⟨.ok, 0, argBytes [(2, fl.delivered), (2, fl.limit - fl.delivered)]⟩))

/-- R123, R124: FILL END in either phase: LOADED with the final quantity, the new last product with its class, booking, plan,
release, fill record and hold gone, an OVER_LIMIT incident above the fill limit; the PERMIT latch follows. That the bits of
the notes which R183 does not name are 0 is the model's choice (log entry 26). -/
def Obligations.FillEndLoads : Prop :=
  ∀ (s : State) (p : Port) (tag index sent count : Nat) (f : Found) (b : Booking) (pl : Plan) (r : Release)
    (fl : Fill) (h : HaltSet) (e : Product) (c : Comp) (payload : List Byte), s.admits p .fillEnd →
    s.names tag index f → f.comp.st = .filling b pl p r fl h → s.product? fl.product = some e → sent < 2 ^ 32 →
    payload = addressBytes tag index ++ argBytes [(4, sent)] →
    count = (if min sent 65535 < fl.delivered then fl.delivered else min sent 65535) →
    c = { f.comp with last := some ⟨fl.product, e.cls⟩, st := .loaded ⟨count, false⟩ } →
    exec (.fillEnd p payload) s = .next (((s.setComp f.slot
      (if fl.limit < count then c.capture ⟨.overLimit, s.clock, some p, fl.arm.val + 1⟩ else c)).driveLatches).reply p
        0x53 ⟨.ok, 0,
          argBytes [(1, (if 65535 < sent then 1 else 0) + (if min sent 65535 < fl.delivered then 8 else 0)), (1, 8),
            (2, count), (2, fl.limit), (1, if fl.limit < count then 1 else 0)]⟩)

/-! ### Roles, access maps, limits and the lines' configuration -/

/-- R160, R161: SET PORT ROLE with its arguments in range: IN_USE while the port has work in hand, else the role and the
capabilities are written and nothing else. That bits 7 to 3 of the capability set (R183) in the reply are 0 is the model's
choice (log entry 26). -/
def Obligations.SetPortRoleUnlessInUse : Prop :=
  ∀ (s : State) (p q : Port) (role : Role) (caps : Caps) (payload : List Byte), s.admits p .setPortRole → q ≠ .A →
    role ≠ .office → (role ≠ .wash → caps = ⟨false, false, false⟩) →
    payload = argBytes [(1, portLetter q), (1, roleCode role), (1, capsCode caps)] →
    ((∃ k c, s.compAt k = some c ∧ c.st.holder = some q) →
      exec (.setPortRole p payload) s = .next (s.reply p 0x16 ⟨.inUse, 1, []⟩)) ∧
    ((∀ k c, s.compAt k = some c → c.st.holder ≠ some q) →
      ((∃ t k, s.tankerAt t = some k ∧ k.docked = some q) →
        exec (.setPortRole p payload) s = .next (s.reply p 0x16 ⟨.inUse, 2, []⟩)) ∧
      ((∀ t k, s.tankerAt t = some k → k.docked ≠ some q) →
        ((∃ a, s.armPort a = some q) →
          exec (.setPortRole p payload) s = .next (s.reply p 0x16 ⟨.inUse, 3, []⟩)) ∧
        ((∀ a, s.armPort a ≠ some q) →
          exec (.setPortRole p payload) s = .next ((s.setPort q { s.port q with role := role, caps := caps }).reply p
            0x16 ⟨.ok, 0, argBytes [(1, roleCode role), (1, capsCode caps), (1, roleCode (s.role q))]⟩))))

/-- R162, R171: SET ACCESS MAP replaces the port's map by the requests whose bits are set and answers their number; SET REPLY
LIMIT sets the requesting port's own limit, held between 96 and 240. That a port out of range gives detail 1 whatever the
length of the map is an inference (log entry 8). -/
def Obligations.AccessMapAndReplyLimit : Prop :=
  ∀ (s : State) (p : Port),
    (s.admits p .setAccessMap →
      (∀ (q : Port) (map : List Byte), q ≠ .A → map.length = 16 →
        ∃ denied : List ReqName,
          exec (.setAccessMap p (beBytes 1 (portLetter q) ++ map)) s = .next
            ((s.setPort q { s.port q with denied := denied }).reply p 0x17 ⟨.ok, 0, beBytes 1 denied.length⟩) ∧
          denied.Nodup ∧
          (∀ r : ReqName, r ∈ denied ↔ (map.getD (r.code / 8) 0).toNat.testBit (r.code % 8) = true)) ∧
      (∀ (b : Byte) (map : List Byte), (b.toNat < 0x42 ∨ 0x46 < b.toNat) →
        exec (.setAccessMap p (b :: map)) s = .next (s.reply p 0x17 ⟨.range, 1, []⟩)) ∧
      (∀ (q : Port) (map : List Byte), q ≠ .A → map.length ≠ 16 →
        exec (.setAccessMap p (beBytes 1 (portLetter q) ++ map)) s = .next (s.reply p 0x17 ⟨.range, 2, []⟩))) ∧
    (∀ (b1 b2 : Byte) (n limit : Nat), s.admits p .setReplyLimit → n = 256 * b1.toNat + b2.toNat →
      limit = (if n < 96 then 96 else if 240 < n then 240 else n) →
      exec (.setReplyLimit p b1 b2) s = .next
        ((s.setPort p { s.port p with limit := limit }).reply p 0x03 ⟨.ok, 0, beBytes 1 limit⟩))

/-- R151, R152, R153: CONFIGURE LINE with its arguments in range: LOCKED, MODE and IN_USE in their order, else the
configuration is replaced, the working state reset, the probe records follow the bindings, and nothing else changes. That the
filtered level, run count and raw value that a mode does not have are UNSETTLED, 0 and absent, and that bit 3 of the
second configuration byte is 0, are the model's choices (log entries 13 and 26). -/
def Obligations.ConfigureLineChecksAndReplaces : Prop :=
  ∀ (s : State) (p : Port) (l : LineNo) (mode : LineMode) (pol : Polarity) (depth : Nat) (func : Option Func)
    (code inst nibble d : Nat) (payload : List Byte), s.admits p .configureLine → s.bindingsAgree →
    ((depth = 0 ∧ d = 0) ∨ (depth = 2 ∧ d = 1) ∨ (depth = 4 ∧ d = 2) ∨ (depth = 8 ∧ d = 3)) →
    ((func = none ∧ code = 0 ∧ inst = 0 ∧ nibble = 0) ∨
      ∃ f, func = some f ∧ f ≠ .washEnable .A ∧ f ≠ .rinseProbe .A ∧ code = funcCode f ∧ inst = funcInstance f ∧
        nibble = funcNibble f) →
    payload = argBytes [(1, l.val), (1, lineModeCode mode), (1, polarityCode pol), (1, depth), (1, code), (1, inst)] →
    (s.lock = true → exec (.configureLine p payload) s = .next (s.reply p 0x18 ⟨.locked, 0, []⟩)) ∧
    (s.lock = false → mode = .analog → l.val < 16 →
      exec (.configureLine p payload) s = .next (s.reply p 0x18 ⟨.mode, 1, []⟩)) ∧
    (s.lock = false → (mode = .analog → 16 ≤ l.val) →
      ((∃ f, func = some f ∧ modeSuits mode f = false) →
        exec (.configureLine p payload) s = .next (s.reply p 0x18 ⟨.mode, 2, []⟩)) ∧
      ((∀ f, func = some f → modeSuits mode f = true) →
        ((mode = .inputFiltered ∧ depth = 0 ∨ mode ≠ .inputFiltered ∧ depth ≠ 0) →
          exec (.configureLine p payload) s = .next (s.reply p 0x18 ⟨.mode, 3, []⟩)) ∧
        ((mode = .inputFiltered ∧ depth ≠ 0 ∨ mode ≠ .inputFiltered ∧ depth = 0) →
          (∀ q, (s.line l).func = some (.washEnable q) → s.washEnableDemand q = true →
            exec (.configureLine p payload) s = .next (s.reply p 0x18 ⟨.inUse, portLetter q, []⟩)) ∧
          ((∀ q, (s.line l).func = some (.washEnable q) → s.washEnableDemand q = false) →
            (∀ m f, m ≠ l → func = some f → (s.line m).func = some f →
              exec (.configureLine p payload) s = .next (s.reply p 0x18 ⟨.inUse, m.val, []⟩)) ∧
            ((∀ m f, m ≠ l → func = some f → (s.line m).func ≠ some f) →
              ∃ (t : State) (latch : Bool) (oldCode oldInst : Nat),
                exec (.configureLine p payload) s = .next (t.reply p 0x18 ⟨.ok, 0,
                  argBytes [(1, lineModeCode mode + 8 * polarityCode pol + 16 * d), (1, code + 16 * nibble),
                    (1, oldCode), (1, oldInst), (1, if latch then 1 else 0)]⟩) ∧
                (latch = true ↔ ∃ f, func = some f ∧ s.demand f = some true) ∧
                ((s.line l).func = none → oldCode = 0 ∧ oldInst = 0) ∧
                (∀ f, (s.line l).func = some f → oldCode = funcCode f ∧ oldInst = funcInstance f) ∧
                t.line l = ⟨mode, pol, depth, func, .unsettled, 0, latch, none⟩ ∧
                (∀ m, m ≠ l → t.line m = s.line m) ∧
                (∀ q, func = some (.rinseProbe q) → t.probe q = some ⟨none, false⟩) ∧
                (∀ q, func ≠ some (.rinseProbe q) → (s.line l).func = some (.rinseProbe q) → t.probe q = none) ∧
                (∀ q, func ≠ some (.rinseProbe q) → (s.line l).func ≠ some (.rinseProbe q) →
                  t.probe q = s.probe q) ∧
                { t with lines := s.lines, probes := s.probes } = s)))))

/-- R150, R155, R157: LOCK LINES sets the lock; SET LINE by its arguments, the line's mode and its binding; SET PROBE
CALIBRATION replaces the calibration and marks every probe record pending. -/
def Obligations.LockSetAndCalibrate : Prop :=
  ∀ (s : State) (p : Port),
    (∀ b1 b2 : Byte, s.admits p .lockLines →
      exec (.lockLines p b1 b2) s = .next
        (({ s with lock := true } : State).reply p 0x19 ⟨.ok, 0, [if s.lock then 1 else 0]⟩)) ∧
    (∀ b1 b2 : Byte, s.admits p .setLine →
      (24 ≤ b1.toNat → exec (.setLine p b1 b2) s = .next (s.reply p 0x1A ⟨.range, 1, []⟩)) ∧
      (b1.toNat < 24 → 2 ≤ b2.toNat → exec (.setLine p b1 b2) s = .next (s.reply p 0x1A ⟨.range, 2, []⟩)) ∧
      (∀ l : LineNo, b1.toNat = l.val → b2.toNat < 2 →
        ((s.line l).mode ≠ .outputPushPull → (s.line l).mode ≠ .outputOpen →
          exec (.setLine p b1 b2) s = .next (s.reply p 0x1A ⟨.mode, lineModeCode (s.line l).mode, []⟩)) ∧
        (((s.line l).mode = .outputPushPull ∨ (s.line l).mode = .outputOpen) →
          (∀ f, (s.line l).func = some f →
            exec (.setLine p b1 b2) s = .next (s.reply p 0x1A ⟨.inUse, funcCode f, []⟩)) ∧
          ((s.line l).func = none →
            exec (.setLine p b1 b2) s = .next
              ((s.setLine l { s.line l with latch := b2 = 1 }).reply p 0x1A ⟨.ok, 0, [b2]⟩))))) ∧
    (∀ (scale : Nat) (offset : Int), s.admits p .setProbeCalibration → 1 ≤ scale → scale ≤ 1023 → -2000 ≤ offset →
      offset ≤ 2000 →
      ∃ t : State, exec (.setProbeCalibration p (beBytes 2 scale ++ beBytes 2 (offset % 65536).toNat)) s =
          .next (t.reply p 0x1B ⟨.ok, 0, beBytes 2 scale ++ beBytes 2 (offset % 65536).toNat ++
            beBytes 1 (([.B, .C, .D, .E, .F] : List Port).countP fun q => (s.probe q).isSome)⟩) ∧
        t.scale = scale ∧ t.offset = offset ∧
        (∀ q, s.probe q = none → t.probe q = none) ∧
        (∀ q x, s.probe q = some x → t.probe q = some { x with pendingMark := true }) ∧
        { t with scale := s.scale, offset := s.offset, probes := s.probes } = s)

/-! ### Reads -/

/-- R168, R156, R186: READ STATUS and READ LINES, byte by byte; neither changes anything but the port's link. That the level
bits of an ANALOG line without a raw value are 0 (log entry 25), and that bit 3 of a line's second byte and bits 7 to 3 of
the capability set are 0 (log entry 26), are the model's choices. -/
def Obligations.StatusAndLinesAreRead : Prop :=
  ∀ (s : State) (p : Port) (b1 b2 : Byte),
    (s.admits p .readStatus → ∀ count : Nat → Nat,
      (∀ n, count n = (List.finRange 192).countP fun k => (s.compAt k).any fun c => stateCode c.st == n) →
      exec (.readStatus p b1 b2) s = .next (s.reply p 0x01 ⟨.ok, 0,
        argBytes [(1, portLetter p), (1, roleCode (s.role p)), (1, capsCode (s.capsOf p)), (1, (s.port p).limit),
          (4, s.clock.toNat), (1, (List.finRange 32).countP fun t => (s.tankerAt t).isSome), (1, count 1),
          (1, count 2), (1, count 3), (1, count 4), (1, count 5), (1, count 6), (1, count 7), (1, count 8), (1, count 9),
          (1, s.queue.length),
          (1, (List.finRange 192).countP fun k => (s.compAt k).any fun c => c.incident.isSome),
          (1, if s.lock then 1 else 0)]⟩)) ∧
    (s.admits p .readLines → s.linesAgree → ∀ depth level func noRaw : LineNo → Nat,
      (∀ l, ((s.line l).depth = 0 → depth l = 0) ∧ ((s.line l).depth = 2 → depth l = 1) ∧
        ((s.line l).depth = 4 → depth l = 2) ∧ ((s.line l).depth = 8 → depth l = 3)) →
      (∀ l, ((s.line l).mode = .analog → level l = (s.line l).raw.getD 0) ∧
        ((s.line l).mode = .outputPushPull ∨ (s.line l).mode = .outputOpen →
          level l = if (s.line l).latch then 1 else 0) ∧
        ((s.line l).mode = .input ∨ (s.line l).mode = .inputFiltered →
          ((s.line l).level = .inactive → level l = 0) ∧ ((s.line l).level = .active → level l = 1) ∧
          ((s.line l).level = .unsettled → level l = 2))) →
      (∀ l, ((s.line l).func = none → func l = 0) ∧
        ∀ f, (s.line l).func = some f → func l = funcCode f + 16 * funcNibble f) →
      (∀ l, noRaw l = if (s.line l).mode = .analog ∧ (s.line l).raw = none then 128 else 0) →
      exec (.readLines p b1 b2) s = .next (s.reply p 0x02 ⟨.ok, 0, (if s.lock then 1 else 0) ::
        (List.finRange 24).flatMap fun l =>
          argBytes [(1, lineModeCode (s.line l).mode + 8 * polarityCode (s.line l).polarity + 16 * depth l
              + 64 * (level l / 256)), (1, func l + noRaw l), (1, level l % 256)]⟩))

/-- R22, R186: READ COMPARTMENT gives the whole record in its layout, each optional part behind its marker. That an empty
incident slot is the single byte 0 is the model's reading (log entry 18); that bits 6 to 3 of the plan's last byte and bits 7
to 2 of the release's flag byte are 0 is its choice (log entry 26). -/
def Obligations.CompartmentRecordIsRead : Prop :=
  ∀ (s : State) (p : Port) (tag index medium : Nat) (f : Found), s.admits p .readCompartment → s.names tag index f →
    s.tablesAgree →
    (∀ pl, f.comp.st.plan = some pl → (∀ st, pl.steps[pl.index - 1]? = some st → medium = mediumCode st.medium) ∧
      (pl.steps[pl.index - 1]? = none → medium = 0)) →
    exec (.readCompartment p (addressBytes tag index)) s = .next (s.reply p 0x04 ⟨.ok, 0,
      argBytes [(2, tag), (1, index), (1, 6 * f.tslot.val + index - 1), (2, f.comp.capacity),
        (4, f.tanker.arrival.toNat), (1, portCode f.tanker.docked), (1, stateCode f.comp.st), (1, phaseCode f.comp.st)]
      ++ markedBytes (f.comp.last.map fun l => [(2, l.code), (1, l.cls.val)])
      ++ argBytes [(1, f.comp.performed), (1, f.comp.faults), (1, portCode f.comp.st.holder)]
      ++ markedBytes (f.comp.st.booking.map fun b => [(2, b.target), (1, b.cls.val), (1, priorityCode b.priority)])
      ++ markedBytes (f.comp.st.plan.map fun pl => [(1, pl.level), (1, pl.steps.length), (1, pl.index), (1, medium),
          (2, pl.dose), (2, pl.active), (1, pl.silence), (1, pl.mismatch),
          (1, capsCode pl.needs + if pl.foodBay then 128 else 0)])
      ++ markedBytes (f.comp.reading.map fun r => [(2, r.conductivity), (1, sourceCode r.source)])
      ++ markedBytes (f.comp.st.release.map fun r => [(2, r.target), (1, r.performed),
          (1, (if r.foodBay then 1 else 0) + if r.frozen then 2 else 0), (2, r.conductivity), (3, r.closureTag),
          (4, r.time.toNat), (3, r.remaining)])
      ++ markedBytes (f.comp.st.fill.map fun x => [(1, x.1.arm.val + 1), (2, x.1.product), (2, x.1.limit),
          (2, x.1.delivered)])
      ++ markedBytes (f.comp.st.loadedPart.map fun q => [(2, q.quantity), (1, if q.partLoaded then 1 else 0)])
      ++ argBytes (match f.comp.incident with
          | some i => [(1, incidentCode i.kind), (4, i.time.toNat), (1, portCode i.port), (1, i.detail),
              (1, if f.comp.overflow then 1 else 0)]
          | none => [(1, 0)])⟩)

/-- R169, R170, R63, R186: READ RECORDS gives the first summaries of the occupied slots from the cursor on in the direction
asked, as many as the count and the reply limit leave room for, and where the next page begins; READ QUEUE gives the entries
from a start position on that fit the reply limit. That bits 7 to 2 of a summary's last byte and bits 7 to 3 of an entry's
capability needs are 0 is the model's choice (log entry 26). -/
def Obligations.RecordsAndQueueAreRead : Prop :=
  ∀ (s : State) (p : Port),
    (∀ (cursor : Slot) (count room : Nat) (up : Bool) (order : List Slot) (occupied given : List (Slot × Comp))
      (target priority : Comp → Nat),
      s.admits p .readRecords → 1 ≤ count → count ≤ 192 →
      order = (if up then (List.finRange 192).filter (fun k => cursor.val ≤ k.val)
        else ((List.finRange 192).filter (fun k => k.val ≤ cursor.val)).reverse) →
      occupied = order.filterMap (fun k => (s.compAt k).map fun c => (k, c)) →
      room = min count (((s.port p).limit - 8) / 12) → given = occupied.take room →
      (∀ c, (∀ b, c.st.booking = some b → target c = b.target ∧ priority c = priorityCode b.priority) ∧
        (c.st.booking = none → target c = 0 ∧ priority c = 0)) →
      exec (.readRecords p (argBytes [(1, cursor.val), (1, count), (1, if up then 0 else 1)])) s = .next
        (s.reply p 0x05 ⟨.ok, 0, argBytes [
          (1, match s.compAt cursor with | some c => stateCode c.st | none => 0),
          (1, match occupied[room]? with | some x => x.1.val | none => if up then 0 else 191),
          (1, count - given.length), (1, if occupied.length ≤ room then 1 else 0), (1, given.length)] ++
          given.flatMap fun x => argBytes [(1, x.1.val), (2, x.2.tag), (1, x.2.index), (1, stateCode x.2.st),
            (1, phaseCode x.2.st), (1, portCode x.2.st.holder), (2, target x.2), (1, priority x.2),
            (1, 16 * x.2.performed + x.2.faults),
            (1, (if x.2.incident.isSome then 1 else 0) + if x.2.overflow then 2 else 0)]⟩)) ∧
    (∀ (b1 b2 : Byte) (start : Nat), s.admits p .readQueue → start = 256 * b1.toNat + b2.toNat →
      ((start = 0 ∨ 192 < start) → exec (.readQueue p b1 b2) s = .next (s.reply p 0x06 ⟨.range, 1, []⟩)) ∧
      (∀ page : List (Entry × Found × Booking × Plan), 1 ≤ start → start ≤ 192 →
        page.map (·.1) = (s.queue.drop (start - 1)).take (((s.port p).limit - 5) / 6) →
        (∀ x ∈ page, s.find x.1.tag x.1.index = some x.2.1 ∧ x.2.1.comp.st = .queued x.2.2.1 x.2.2.2) →
        exec (.readQueue p b1 b2) s = .next (s.reply p 0x06 ⟨.ok, 0,
          argBytes [(1, s.queue.length), (1, page.length)] ++ page.flatMap fun x =>
            argBytes [(2, x.1.tag), (1, x.1.index), (1, 16 * priorityCode x.2.2.1.priority + x.2.2.2.level),
              (1, capsCode x.2.2.2.needs), (1, portCode x.2.1.tanker.docked)]⟩)))

/-! ### Invariants that every step keeps -/

/-- R1, R2, R83, R104, R135: every step keeps the tables in agreement, and in every record the fault count, the overflow
flag, the frozen flag, the step dose and the delivered litres (R65, R74, R102, R118). With the planner's tables, the
calibration and the references in agreement, it keeps every part of every record in its range (R3, R5, R6, R7, R10), the
progress of every running step below its ends (R65, R72, R81, R82), every fill that flows below its limit (R116, R117), and
every running timer that owes an advance at the expiry the advance brings, so that no advance goes uncounted (R131; the mark
that it is owed is the model's, log entry 2). -/
def Obligations.StepKeepsTablesAndRecords : Prop :=
  ∀ s t : State, s.tablesAgree → s.recordsAgree → step s = .next t →
    t.tablesAgree ∧ t.recordsAgree ∧
    (s.boundsAgree → s.plannerAgrees → s.probesAgree → s.referencesHold →
      (∀ (k : Slot) (c : Comp), s.compAt k = some c → c.targetsAgree) → t.boundsAgree)

/-- R47: every step keeps the queue in agreement with the QUEUED compartments, and no NORMAL entry before an URGENT one. -/
def Obligations.StepKeepsTheQueue : Prop :=
  ∀ s t : State, s.tablesAgree → s.queueAgrees → s.urgentFirst → step s = .next t → t.queueAgrees ∧ t.urgentFirst

/-- R149: every step leaves the latch of every bound output line at the demand of its instance. -/
def Obligations.StepKeepsLatchesFollowing : Prop :=
  ∀ s t : State, s.tablesAgree → s.latchesFollow → step s = .next t → t.latchesFollow

/-- R140, R146, R151, R88, R94, R157, R158, R171, R174: every step keeps the lines, their bindings, the probe records and the
ports in agreement. -/
def Obligations.StepKeepsLinesAndPorts : Prop :=
  ∀ s t : State, s.linesAgree → s.bindingsAgree → s.probesAgree → s.portsAgree → step s = .next t →
    t.linesAgree ∧ t.bindingsAgree ∧ t.probesAgree ∧ t.portsAgree

/-- R12, R52, R55, R107: every step keeps every holder's role, every docking, at most one fill on an arm, and at most two
compartments held by a WASH port. -/
def Obligations.StepKeepsHoldsAndDockings : Prop :=
  ∀ s t : State, s.tablesAgree → s.holdersAgree → s.dockingsAgree → s.oneFillEach → step s = .next t →
    t.holdersAgree ∧ t.dockingsAgree ∧ t.oneFillEach ∧ (s.baysHoldTwo → t.baysHoldTwo)

/-- R24, R25, R28, R30, R32: every step keeps the planner's tables in their ranges, every product that a record names in the
catalogue with the class the record copied, and the release's and the fill's product at the booking's target. -/
def Obligations.StepKeepsPlannerAndReferences : Prop :=
  ∀ s t : State, s.plannerAgrees → s.referencesHold →
    (∀ (k : Slot) (c : Comp), s.compAt k = some c → c.targetsAgree) → step s = .next t →
    t.plannerAgrees ∧ t.referencesHold ∧ ∀ (k : Slot) (c : Comp), t.compAt k = some c → c.targetsAgree

/-! ### What a yard may rely on -/

/-- R109 to R115, R118: no command of any kind makes a compartment FILLING but a FILL BEGIN that names it: a compartment that
is FILLING after a command was FILLING before, on the same arm with the same product, limit, release and holder and no more
litres; or it was RELEASED, and the command is, or is the byte that completes, a FILL BEGIN of the port that is then its
holder, with its address, the arm, the product it was released for and the closure tag number of its release; the port is a
FILL port and mapped to the arm, the arm was free, its GROUND line ACTIVE, its OVERFILL line, if any, INACTIVE, a PERMIT line
bound and the lock set; and the fill has 0 litres. -/
def Obligations.OnlyReleasedCompartmentsFill : Prop :=
  ∀ (i : Instr) (s t : State) (k : Slot) (d : Comp) (b : Booking) (pl : Plan) (h : Port) (r : Release) (f : Fill)
    (hs : HaltSet), s.bindingsAgree → exec i s = .next t → t.compAt k = some d → d.st = .filling b pl h r f hs →
    (∃ c g gs, s.compAt k = some c ∧ c.st = .filling b pl h r g gs ∧ g.arm = f.arm ∧ g.product = f.product ∧
      g.limit = f.limit ∧ g.delivered ≤ f.delivered) ∨
    (∃ c old, s.compAt k = some c ∧ c.st = .released b pl old ∧ r = { old with frozen := true } ∧
      (∃ tag index found, s.names tag index found ∧ found.slot = k ∧
        s.carries i .fillBegin h (addressBytes tag index ++
          argBytes [(1, f.arm.val + 1), (2, f.product), (3, old.closureTag)])) ∧
      f.product = old.target ∧ f.delivered = 0 ∧ hs = ⟨false, false, false⟩ ∧ s.role h = .fill ∧
      s.armPort f.arm = some h ∧ s.lock = true ∧
      (∃ g, (s.line g).func = some (.ground f.arm) ∧ (s.line g).level = .active) ∧
      (∃ m, (s.line m).func = some (.permit f.arm)) ∧
      (∀ o, (s.line o).func = some (.overfill f.arm) → (s.line o).level = .inactive) ∧
      ∀ (j : Slot) (c' : Comp) (f' : Fill) (h' : HaltSet), s.compAt j = some c' → c'.st.fill = some (f', h') →
        f'.arm ≠ f.arm)

/-- R42, R43, R92, R93, R96, R97, R102: no command of any kind makes a compartment RELEASED but an INSPECT RESULT with verdict
PASS that names it: a compartment that is RELEASED after a command was RELEASED before, with the same closure tag, release
time, conductivity, performed level and food-bay flag and no more validity; or it was being inspected by an INSPECT port, and
the command is, or is the byte that completes, an INSPECT RESULT of that port with its address, verdict PASS and the closure
tag number of the release; the conductivity is the probe's where one is bound and the reported one after its clamp where none
is, it is within the class's limit, the target is the booking's, the performed level the compartment's, and the validity the
class's hours. -/
def Obligations.OnlyAPassReleases : Prop :=
  ∀ (i : Instr) (s t : State) (k : Slot) (d : Comp) (b : Booking) (pl : Plan) (r : Release),
    exec i s = .next t → t.compAt k = some d → d.st = .released b pl r →
    (∃ c b' pl' old, s.compAt k = some c ∧ c.st = .released b' pl' old ∧ r.closureTag = old.closureTag ∧
      r.time = old.time ∧ r.conductivity = old.conductivity ∧ r.performed = old.performed ∧
      r.foodBay = old.foodBay ∧ r.frozen = old.frozen ∧ r.remaining ≤ old.remaining) ∨
    (∃ c h, s.compAt k = some c ∧ c.st = .inspecting b pl h ∧ s.role h = .inspect ∧
      (∃ tag index found reported, s.names tag index found ∧ found.slot = k ∧ reported ≤ 65535 ∧
        s.carries i .inspectResult h (addressBytes tag index ++ argBytes [(1, 1), (2, reported), (3, r.closureTag)]) ∧
        ((∀ l, (s.line l).func ≠ some (.rinseProbe h)) → r.conductivity = min reported 20000)) ∧
      ((∃ l, (s.line l).func = some (.rinseProbe h)) →
        ∃ x y, s.probe h = some x ∧ x.pendingMark = false ∧ x.reading = some y ∧ r.conductivity = y.conductivity) ∧
      r.conductivity ≤ (s.classLimit b.cls).conductivity ∧ r.target = b.target ∧ r.performed = c.performed ∧
      r.foodBay = pl.foodBay ∧ r.time = s.clock ∧ r.remaining = (s.classLimit b.cls).validityHours * 3600 ∧
      r.frozen = false ∧ (1 ≤ r.closureTag ∧ r.closureTag ≤ 999999))
end

