-- ==== Sys2Proof/Laws/Bytes.lean ====
section
/-! SUPPORT. Numbers as bytes and back, and what check 3 makes of the bytes of arguments (R165, R173, R183). -/

namespace Sys2Proof.Machine

/-! ### Numbers as bytes -/

@[simp] theorem length_beBytes (w n : Nat) : (beBytes w n).length = w := by
  induction w with
  | zero => rfl
  | succ w ih => simp [beBytes, ih]

theorem foldl_beValue (bs : List Byte) (a : Nat) :
    bs.foldl (fun acc b => acc * 256 + b.toNat) a = a * 256 ^ bs.length + beValue bs := by
  induction bs generalizing a with
  | nil => simp [beValue]
  | cons b bs ih =>
    simp only [beValue, List.foldl_cons, List.length_cons, pow_succ]
    rw [ih, ih (0 * 256 + b.toNat)]
    ring

theorem beValue_cons (b : Byte) (bs : List Byte) : beValue (b :: bs) = b.toNat * 256 ^ bs.length + beValue bs := by
  rw [beValue, List.foldl_cons, foldl_beValue]
  simp

@[simp] theorem beValue_nil : beValue [] = 0 := rfl

theorem beValue_append (xs ys : List Byte) : beValue (xs ++ ys) = beValue xs * 256 ^ ys.length + beValue ys := by
  rw [beValue, List.foldl_append, foldl_beValue]
  rfl

theorem beValue_lt (bs : List Byte) : beValue bs < 256 ^ bs.length := by
  induction bs with
  | nil => simp
  | cons b bs ih =>
    rw [beValue_cons, List.length_cons, pow_succ]
    have hb := b.isLt
    have hm : (b.toNat + 1) * 256 ^ bs.length ≤ 256 * 256 ^ bs.length := Nat.mul_le_mul_right _ (by omega)
    nlinarith [hm]

/-- Reading the bytes of a number gives the number back, as far as the bytes hold it. -/
theorem beValue_beBytes (w n : Nat) : beValue (beBytes w n) = n % 256 ^ w := by
  induction w with
  | zero => simp [beBytes, Nat.mod_one]
  | succ w ih =>
    rw [beBytes, beValue_cons, ih, length_beBytes, BitVec.toNat_ofNat, Nat.mul_comm,
      Nat.add_comm, show (2 : Nat) ^ 8 = 256 from rfl, pow_succ, ← Nat.mod_mul]

/-- Bytes hold a number modulo their range. -/
theorem beBytes_add (w a n : Nat) : beBytes w (a * 256 ^ w + n) = beBytes w n := by
  induction w generalizing a with
  | zero => rfl
  | succ w ih =>
    have hpos : 0 < 256 ^ w := by positivity
    have hsplit : a * 256 ^ (w + 1) + n = (a * 256) * 256 ^ w + n := by ring
    have hdiv : ((a * 256) * 256 ^ w + n) / 256 ^ w = a * 256 + n / 256 ^ w := by
      rw [Nat.mul_comm, Nat.mul_add_div hpos]
    rw [beBytes, beBytes, hsplit, hdiv, ih]
    congr 1
    apply BitVec.eq_of_toNat_eq
    simp

/-- The bytes of the number that bytes carry are those bytes. -/
theorem beBytes_beValue (bs : List Byte) : beBytes bs.length (beValue bs) = bs := by
  induction bs with
  | nil => rfl
  | cons b bs ih =>
    have hlt := beValue_lt bs
    have hpos : 0 < 256 ^ bs.length := by positivity
    have hdiv : (b.toNat * 256 ^ bs.length + beValue bs) / 256 ^ bs.length = b.toNat := by
      rw [Nat.mul_comm, Nat.mul_add_div hpos, Nat.div_eq_of_lt hlt, Nat.add_zero]
    rw [List.length_cons, beBytes, beValue_cons, hdiv, beBytes_add, ih, BitVec.ofNat_toNat, BitVec.setWidth_eq]

theorem beValue_beBytes_of_lt {w n : Nat} (h : n < 256 ^ w) : beValue (beBytes w n) = n := by
  rw [beValue_beBytes, Nat.mod_eq_of_lt h]

/-- The two argument bytes of a short frame as one number. -/
theorem beValue_pair (b1 b2 : Byte) : beValue [b1, b2] = 256 * b1.toNat + b2.toNat := by
  simp [beValue]
  ring

theorem beValue_one (b : Byte) : beValue [b] = b.toNat := by
  simp [beValue]

/-! ### Argument bytes -/

@[simp] theorem argBytes_nil : argBytes [] = [] := rfl

@[simp] theorem argBytes_cons (w v : Nat) (rest : List (Nat × Nat)) :
    argBytes ((w, v) :: rest) = beBytes w v ++ argBytes rest := rfl

theorem argBytes_append (xs ys : List (Nat × Nat)) : argBytes (xs ++ ys) = argBytes xs ++ argBytes ys := by
  induction xs with
  | nil => rfl
  | cons x xs ih => simp [argBytes, ih]

theorem length_argBytes (xs : List (Nat × Nat)) : (argBytes xs).length = (xs.map (·.1)).sum := by
  induction xs with
  | nil => rfl
  | cons x xs ih => simp [argBytes, ih]

/-! ### Check 3 over arguments that are there and in range -/

/-- The values suit the fields: each fits its bytes and is in range after those before it. -/
def fieldsFit : List Field → List Nat → List Nat → Bool
  | [], _, [] => true
  | f :: fs, got, v :: vs => v < 256 ^ f.width && f.legal got v && fieldsFit fs (got ++ [v]) vs
  | [], _, _ :: _ => false
  | _ :: _, _, [] => false

/-- The values with the sizes of their fields. -/
def fieldArgs : List Field → List Nat → List (Nat × Nat)
  | f :: fs, v :: vs => (f.width, v) :: fieldArgs fs vs
  | [], _ => []
  | _ :: _, [] => []

theorem takeFields_args : ∀ (fs : List Field) (got vs : List Nat) (rest : List Byte), fieldsFit fs got vs = true →
    takeFields fs got (argBytes (fieldArgs fs vs) ++ rest) = .ok (got ++ vs, rest)
  | [], got, [], rest, _ => by simp [takeFields, fieldArgs]
  | f :: fs, got, v :: vs, rest, h => by
    simp only [fieldsFit, Bool.and_eq_true, decide_eq_true_eq] at h
    obtain ⟨⟨hlt, hleg⟩, hrest⟩ := h
    have hlen : ¬ (argBytes (fieldArgs (f :: fs) (v :: vs)) ++ rest).length < f.width := by
      simp [fieldArgs]
    have htake : (argBytes (fieldArgs (f :: fs) (v :: vs)) ++ rest).take f.width = beBytes f.width v := by
      simp [fieldArgs]
    have hdrop : (argBytes (fieldArgs (f :: fs) (v :: vs)) ++ rest).drop f.width
        = argBytes (fieldArgs fs vs) ++ rest := by
      simp [fieldArgs]
    rw [takeFields, if_neg hlen, htake, hdrop, beValue_beBytes_of_lt hlt, if_pos hleg,
      takeFields_args fs (got ++ [v]) vs rest hrest]
    simp
  | [], _, _ :: _, _, h => by simp [fieldsFit] at h
  | _ :: _, _, [], _, h => by simp [fieldsFit] at h

/-- Check 3 of a long frame that carries exactly its arguments, each in range. -/
theorem checkPayload_args {fs : List Field} {vs : List Nat} {payload : List Byte} (n : Nat)
    (hp : payload = argBytes (fieldArgs fs vs)) (hf : fieldsFit fs [] vs = true) :
    checkPayload fs n payload = .ok vs := by
  have h := takeFields_args fs [] vs [] hf
  simp only [List.append_nil, List.nil_append] at h
  rw [checkPayload, hp, h]

theorem checkLong_args {fs : List Field} {vs : List Nat} {payload : List Byte}
    (hp : payload = argBytes (fieldArgs fs vs)) (hf : fieldsFit fs [] vs = true) : checkLong fs payload = .ok vs :=
  checkPayload_args _ hp hf

/-- What check 3 has found when it lets the arguments pass: the payload is theirs and each is in range. -/
theorem takeFields_ok : ∀ (fs : List Field) (got : List Nat) (bs : List Byte) (vs : List Nat) (rest : List Byte),
    takeFields fs got bs = .ok (vs, rest) →
    ∃ ws, vs = got ++ ws ∧ fieldsFit fs got ws = true ∧ bs = argBytes (fieldArgs fs ws) ++ rest
  | [], got, bs, vs, rest, h => by
    simp only [takeFields, Except.ok.injEq, Prod.mk.injEq] at h
    exact ⟨[], by simp [h.1], rfl, by simp [fieldArgs, h.2]⟩
  | f :: fs, got, bs, vs, rest, h => by
    rw [takeFields] at h
    split_ifs at h with hlen hleg
    obtain ⟨ws, hvs, hfit, hbs⟩ := takeFields_ok fs _ _ _ _ h
    have hl : (bs.take f.width).length = f.width := by simp; omega
    have hval := beValue_lt (bs.take f.width)
    rw [hl] at hval
    refine ⟨beValue (bs.take f.width) :: ws, by simp [hvs], by simp [fieldsFit, hval, hleg, hfit], ?_⟩
    have hback : beBytes f.width (beValue (bs.take f.width)) = bs.take f.width := by
      simpa only [hl] using beBytes_beValue (bs.take f.width)
    rw [fieldArgs, argBytes_cons, hback, List.append_assoc, ← hbs, List.take_append_drop]

end Sys2Proof.Machine
end

