-- ==== Sys2Proof/Laws/State.lean ====
section
/-! SUPPORT. What each update of the state leaves in each field, so that no proof unfolds an update. -/

namespace Sys2Proof.Machine

variable (s : State)

/-! ### setPort -/

@[simp] theorem State.setPort_pending (p : Port) (r : PortRec) : (s.setPort p r).pending = s.pending := rfl
@[simp] theorem State.setPort_clock (p : Port) (r : PortRec) : (s.setPort p r).clock = s.clock := rfl
@[simp] theorem State.setPort_lastAdvance (p : Port) (r : PortRec) : (s.setPort p r).lastAdvance = s.lastAdvance := rfl
@[simp] theorem State.setPort_tankers (p : Port) (r : PortRec) : (s.setPort p r).tankers = s.tankers := rfl
@[simp] theorem State.setPort_comps (p : Port) (r : PortRec) : (s.setPort p r).comps = s.comps := rfl
@[simp] theorem State.setPort_queue (p : Port) (r : PortRec) : (s.setPort p r).queue = s.queue := rfl
@[simp] theorem State.setPort_catalogue (p : Port) (r : PortRec) : (s.setPort p r).catalogue = s.catalogue := rfl
@[simp] theorem State.setPort_matrix (p : Port) (r : PortRec) : (s.setPort p r).matrix = s.matrix := rfl
@[simp] theorem State.setPort_limits (p : Port) (r : PortRec) : (s.setPort p r).limits = s.limits := rfl
@[simp] theorem State.setPort_programs (p : Port) (r : PortRec) : (s.setPort p r).programs = s.programs := rfl
@[simp] theorem State.setPort_ports (p : Port) (r : PortRec) : (s.setPort p r).ports = s.ports.set p r := rfl
@[simp] theorem State.setPort_lines (p : Port) (r : PortRec) : (s.setPort p r).lines = s.lines := rfl
@[simp] theorem State.setPort_lock (p : Port) (r : PortRec) : (s.setPort p r).lock = s.lock := rfl
@[simp] theorem State.setPort_armMap (p : Port) (r : PortRec) : (s.setPort p r).armMap = s.armMap := rfl
@[simp] theorem State.setPort_scale (p : Port) (r : PortRec) : (s.setPort p r).scale = s.scale := rfl
@[simp] theorem State.setPort_offset (p : Port) (r : PortRec) : (s.setPort p r).offset = s.offset := rfl
@[simp] theorem State.setPort_probes (p : Port) (r : PortRec) : (s.setPort p r).probes = s.probes := rfl
@[simp] theorem State.setPort_tankerAt (p : Port) (r : PortRec) (u : TankerSlot) : (s.setPort p r).tankerAt u = s.tankerAt u := rfl
@[simp] theorem State.setPort_compAt (p : Port) (r : PortRec) (j : Slot) : (s.setPort p r).compAt j = s.compAt j := rfl
@[simp] theorem State.setPort_line (p : Port) (r : PortRec) (m : LineNo) : (s.setPort p r).line m = s.line m := rfl
@[simp] theorem State.setPort_probe (p : Port) (r : PortRec) (q : Port) : (s.setPort p r).probe q = s.probe q := rfl
@[simp] theorem State.setPort_armPort (p : Port) (r : PortRec) (arm : Arm) : (s.setPort p r).armPort arm = s.armPort arm := rfl
@[simp] theorem State.setPort_product_entry (p : Port) (r : PortRec) (num : Nat) : (s.setPort p r).product? num = s.product? num := rfl
@[simp] theorem State.setPort_classLimit (p : Port) (r : PortRec) (cl : ClassNo) : (s.setPort p r).classLimit cl = s.classLimit cl := rfl
@[simp] theorem State.setPort_matrixLevel (p : Port) (r : PortRec) (row col : ClassNo) : (s.setPort p r).matrixLevel row col = s.matrixLevel row col := rfl
@[simp] theorem State.setPort_program (p : Port) (r : PortRec) (num : Nat) : (s.setPort p r).program num = s.program num := rfl
@[simp] theorem State.setPort_records (p : Port) (r : PortRec) : (s.setPort p r).records = s.records := rfl
@[simp] theorem State.setPort_attention (p : Port) (r : PortRec) : (s.setPort p r).attention = s.attention := rfl
@[simp] theorem State.setPort_findTanker (p : Port) (r : PortRec) (num : Nat) : (s.setPort p r).findTanker num = s.findTanker num := rfl

/-! ### setTanker -/

@[simp] theorem State.setTanker_pending (t : TankerSlot) (k : Option Tanker) : (s.setTanker t k).pending = s.pending := rfl
@[simp] theorem State.setTanker_clock (t : TankerSlot) (k : Option Tanker) : (s.setTanker t k).clock = s.clock := rfl
@[simp] theorem State.setTanker_lastAdvance (t : TankerSlot) (k : Option Tanker) : (s.setTanker t k).lastAdvance = s.lastAdvance := rfl
@[simp] theorem State.setTanker_tankers (t : TankerSlot) (k : Option Tanker) : (s.setTanker t k).tankers = s.tankers.set t k := rfl
@[simp] theorem State.setTanker_comps (t : TankerSlot) (k : Option Tanker) : (s.setTanker t k).comps = s.comps := rfl
@[simp] theorem State.setTanker_queue (t : TankerSlot) (k : Option Tanker) : (s.setTanker t k).queue = s.queue := rfl
@[simp] theorem State.setTanker_catalogue (t : TankerSlot) (k : Option Tanker) : (s.setTanker t k).catalogue = s.catalogue := rfl
@[simp] theorem State.setTanker_matrix (t : TankerSlot) (k : Option Tanker) : (s.setTanker t k).matrix = s.matrix := rfl
@[simp] theorem State.setTanker_limits (t : TankerSlot) (k : Option Tanker) : (s.setTanker t k).limits = s.limits := rfl
@[simp] theorem State.setTanker_programs (t : TankerSlot) (k : Option Tanker) : (s.setTanker t k).programs = s.programs := rfl
@[simp] theorem State.setTanker_ports (t : TankerSlot) (k : Option Tanker) : (s.setTanker t k).ports = s.ports := rfl
@[simp] theorem State.setTanker_lines (t : TankerSlot) (k : Option Tanker) : (s.setTanker t k).lines = s.lines := rfl
@[simp] theorem State.setTanker_lock (t : TankerSlot) (k : Option Tanker) : (s.setTanker t k).lock = s.lock := rfl
@[simp] theorem State.setTanker_armMap (t : TankerSlot) (k : Option Tanker) : (s.setTanker t k).armMap = s.armMap := rfl
@[simp] theorem State.setTanker_scale (t : TankerSlot) (k : Option Tanker) : (s.setTanker t k).scale = s.scale := rfl
@[simp] theorem State.setTanker_offset (t : TankerSlot) (k : Option Tanker) : (s.setTanker t k).offset = s.offset := rfl
@[simp] theorem State.setTanker_probes (t : TankerSlot) (k : Option Tanker) : (s.setTanker t k).probes = s.probes := rfl
@[simp] theorem State.setTanker_port (t : TankerSlot) (k : Option Tanker) (q : Port) : (s.setTanker t k).port q = s.port q := rfl
@[simp] theorem State.setTanker_role (t : TankerSlot) (k : Option Tanker) (q : Port) : (s.setTanker t k).role q = s.role q := rfl
@[simp] theorem State.setTanker_capsOf (t : TankerSlot) (k : Option Tanker) (q : Port) : (s.setTanker t k).capsOf q = s.capsOf q := rfl
@[simp] theorem State.setTanker_compAt (t : TankerSlot) (k : Option Tanker) (j : Slot) : (s.setTanker t k).compAt j = s.compAt j := rfl
@[simp] theorem State.setTanker_line (t : TankerSlot) (k : Option Tanker) (m : LineNo) : (s.setTanker t k).line m = s.line m := rfl
@[simp] theorem State.setTanker_probe (t : TankerSlot) (k : Option Tanker) (q : Port) : (s.setTanker t k).probe q = s.probe q := rfl
@[simp] theorem State.setTanker_armPort (t : TankerSlot) (k : Option Tanker) (arm : Arm) : (s.setTanker t k).armPort arm = s.armPort arm := rfl
@[simp] theorem State.setTanker_product_entry (t : TankerSlot) (k : Option Tanker) (num : Nat) : (s.setTanker t k).product? num = s.product? num := rfl
@[simp] theorem State.setTanker_classLimit (t : TankerSlot) (k : Option Tanker) (cl : ClassNo) : (s.setTanker t k).classLimit cl = s.classLimit cl := rfl
@[simp] theorem State.setTanker_matrixLevel (t : TankerSlot) (k : Option Tanker) (row col : ClassNo) : (s.setTanker t k).matrixLevel row col = s.matrixLevel row col := rfl
@[simp] theorem State.setTanker_program (t : TankerSlot) (k : Option Tanker) (num : Nat) : (s.setTanker t k).program num = s.program num := rfl
@[simp] theorem State.setTanker_records (t : TankerSlot) (k : Option Tanker) : (s.setTanker t k).records = s.records := rfl
@[simp] theorem State.setTanker_attention (t : TankerSlot) (k : Option Tanker) : (s.setTanker t k).attention = s.attention := rfl

/-! ### setComp -/

@[simp] theorem State.setComp_pending (k : Slot) (c : Comp) : (s.setComp k c).pending = s.pending := rfl
@[simp] theorem State.setComp_clock (k : Slot) (c : Comp) : (s.setComp k c).clock = s.clock := rfl
@[simp] theorem State.setComp_lastAdvance (k : Slot) (c : Comp) : (s.setComp k c).lastAdvance = s.lastAdvance := rfl
@[simp] theorem State.setComp_tankers (k : Slot) (c : Comp) : (s.setComp k c).tankers = s.tankers := rfl
@[simp] theorem State.setComp_comps (k : Slot) (c : Comp) : (s.setComp k c).comps = s.comps.set k (some c) := rfl
@[simp] theorem State.setComp_queue (k : Slot) (c : Comp) : (s.setComp k c).queue = s.queue := rfl
@[simp] theorem State.setComp_catalogue (k : Slot) (c : Comp) : (s.setComp k c).catalogue = s.catalogue := rfl
@[simp] theorem State.setComp_matrix (k : Slot) (c : Comp) : (s.setComp k c).matrix = s.matrix := rfl
@[simp] theorem State.setComp_limits (k : Slot) (c : Comp) : (s.setComp k c).limits = s.limits := rfl
@[simp] theorem State.setComp_programs (k : Slot) (c : Comp) : (s.setComp k c).programs = s.programs := rfl
@[simp] theorem State.setComp_ports (k : Slot) (c : Comp) : (s.setComp k c).ports = s.ports := rfl
@[simp] theorem State.setComp_lines (k : Slot) (c : Comp) : (s.setComp k c).lines = s.lines := rfl
@[simp] theorem State.setComp_lock (k : Slot) (c : Comp) : (s.setComp k c).lock = s.lock := rfl
@[simp] theorem State.setComp_armMap (k : Slot) (c : Comp) : (s.setComp k c).armMap = s.armMap := rfl
@[simp] theorem State.setComp_scale (k : Slot) (c : Comp) : (s.setComp k c).scale = s.scale := rfl
@[simp] theorem State.setComp_offset (k : Slot) (c : Comp) : (s.setComp k c).offset = s.offset := rfl
@[simp] theorem State.setComp_probes (k : Slot) (c : Comp) : (s.setComp k c).probes = s.probes := rfl
@[simp] theorem State.setComp_port (k : Slot) (c : Comp) (q : Port) : (s.setComp k c).port q = s.port q := rfl
@[simp] theorem State.setComp_role (k : Slot) (c : Comp) (q : Port) : (s.setComp k c).role q = s.role q := rfl
@[simp] theorem State.setComp_capsOf (k : Slot) (c : Comp) (q : Port) : (s.setComp k c).capsOf q = s.capsOf q := rfl
@[simp] theorem State.setComp_tankerAt (k : Slot) (c : Comp) (u : TankerSlot) : (s.setComp k c).tankerAt u = s.tankerAt u := rfl
@[simp] theorem State.setComp_line (k : Slot) (c : Comp) (m : LineNo) : (s.setComp k c).line m = s.line m := rfl
@[simp] theorem State.setComp_probe (k : Slot) (c : Comp) (q : Port) : (s.setComp k c).probe q = s.probe q := rfl
@[simp] theorem State.setComp_armPort (k : Slot) (c : Comp) (arm : Arm) : (s.setComp k c).armPort arm = s.armPort arm := rfl
@[simp] theorem State.setComp_product_entry (k : Slot) (c : Comp) (num : Nat) : (s.setComp k c).product? num = s.product? num := rfl
@[simp] theorem State.setComp_classLimit (k : Slot) (c : Comp) (cl : ClassNo) : (s.setComp k c).classLimit cl = s.classLimit cl := rfl
@[simp] theorem State.setComp_matrixLevel (k : Slot) (c : Comp) (row col : ClassNo) : (s.setComp k c).matrixLevel row col = s.matrixLevel row col := rfl
@[simp] theorem State.setComp_program (k : Slot) (c : Comp) (num : Nat) : (s.setComp k c).program num = s.program num := rfl
@[simp] theorem State.setComp_findTanker (k : Slot) (c : Comp) (num : Nat) : (s.setComp k c).findTanker num = s.findTanker num := rfl

/-! ### freeComp -/

@[simp] theorem State.freeComp_pending (k : Slot) : (s.freeComp k).pending = s.pending := rfl
@[simp] theorem State.freeComp_clock (k : Slot) : (s.freeComp k).clock = s.clock := rfl
@[simp] theorem State.freeComp_lastAdvance (k : Slot) : (s.freeComp k).lastAdvance = s.lastAdvance := rfl
@[simp] theorem State.freeComp_tankers (k : Slot) : (s.freeComp k).tankers = s.tankers := rfl
@[simp] theorem State.freeComp_comps (k : Slot) : (s.freeComp k).comps = s.comps.set k none := rfl
@[simp] theorem State.freeComp_queue (k : Slot) : (s.freeComp k).queue = s.queue := rfl
@[simp] theorem State.freeComp_catalogue (k : Slot) : (s.freeComp k).catalogue = s.catalogue := rfl
@[simp] theorem State.freeComp_matrix (k : Slot) : (s.freeComp k).matrix = s.matrix := rfl
@[simp] theorem State.freeComp_limits (k : Slot) : (s.freeComp k).limits = s.limits := rfl
@[simp] theorem State.freeComp_programs (k : Slot) : (s.freeComp k).programs = s.programs := rfl
@[simp] theorem State.freeComp_ports (k : Slot) : (s.freeComp k).ports = s.ports := rfl
@[simp] theorem State.freeComp_lines (k : Slot) : (s.freeComp k).lines = s.lines := rfl
@[simp] theorem State.freeComp_lock (k : Slot) : (s.freeComp k).lock = s.lock := rfl
@[simp] theorem State.freeComp_armMap (k : Slot) : (s.freeComp k).armMap = s.armMap := rfl
@[simp] theorem State.freeComp_scale (k : Slot) : (s.freeComp k).scale = s.scale := rfl
@[simp] theorem State.freeComp_offset (k : Slot) : (s.freeComp k).offset = s.offset := rfl
@[simp] theorem State.freeComp_probes (k : Slot) : (s.freeComp k).probes = s.probes := rfl
@[simp] theorem State.freeComp_port (k : Slot) (q : Port) : (s.freeComp k).port q = s.port q := rfl
@[simp] theorem State.freeComp_role (k : Slot) (q : Port) : (s.freeComp k).role q = s.role q := rfl
@[simp] theorem State.freeComp_capsOf (k : Slot) (q : Port) : (s.freeComp k).capsOf q = s.capsOf q := rfl
@[simp] theorem State.freeComp_tankerAt (k : Slot) (u : TankerSlot) : (s.freeComp k).tankerAt u = s.tankerAt u := rfl
@[simp] theorem State.freeComp_line (k : Slot) (m : LineNo) : (s.freeComp k).line m = s.line m := rfl
@[simp] theorem State.freeComp_probe (k : Slot) (q : Port) : (s.freeComp k).probe q = s.probe q := rfl
@[simp] theorem State.freeComp_armPort (k : Slot) (arm : Arm) : (s.freeComp k).armPort arm = s.armPort arm := rfl
@[simp] theorem State.freeComp_product_entry (k : Slot) (num : Nat) : (s.freeComp k).product? num = s.product? num := rfl
@[simp] theorem State.freeComp_classLimit (k : Slot) (cl : ClassNo) : (s.freeComp k).classLimit cl = s.classLimit cl := rfl
@[simp] theorem State.freeComp_matrixLevel (k : Slot) (row col : ClassNo) : (s.freeComp k).matrixLevel row col = s.matrixLevel row col := rfl
@[simp] theorem State.freeComp_program (k : Slot) (num : Nat) : (s.freeComp k).program num = s.program num := rfl
@[simp] theorem State.freeComp_findTanker (k : Slot) (num : Nat) : (s.freeComp k).findTanker num = s.findTanker num := rfl

/-! ### setLine -/

@[simp] theorem State.setLine_pending (l : LineNo) (x : Line) : (s.setLine l x).pending = s.pending := rfl
@[simp] theorem State.setLine_clock (l : LineNo) (x : Line) : (s.setLine l x).clock = s.clock := rfl
@[simp] theorem State.setLine_lastAdvance (l : LineNo) (x : Line) : (s.setLine l x).lastAdvance = s.lastAdvance := rfl
@[simp] theorem State.setLine_tankers (l : LineNo) (x : Line) : (s.setLine l x).tankers = s.tankers := rfl
@[simp] theorem State.setLine_comps (l : LineNo) (x : Line) : (s.setLine l x).comps = s.comps := rfl
@[simp] theorem State.setLine_queue (l : LineNo) (x : Line) : (s.setLine l x).queue = s.queue := rfl
@[simp] theorem State.setLine_catalogue (l : LineNo) (x : Line) : (s.setLine l x).catalogue = s.catalogue := rfl
@[simp] theorem State.setLine_matrix (l : LineNo) (x : Line) : (s.setLine l x).matrix = s.matrix := rfl
@[simp] theorem State.setLine_limits (l : LineNo) (x : Line) : (s.setLine l x).limits = s.limits := rfl
@[simp] theorem State.setLine_programs (l : LineNo) (x : Line) : (s.setLine l x).programs = s.programs := rfl
@[simp] theorem State.setLine_ports (l : LineNo) (x : Line) : (s.setLine l x).ports = s.ports := rfl
@[simp] theorem State.setLine_lines (l : LineNo) (x : Line) : (s.setLine l x).lines = s.lines.set l x := rfl
@[simp] theorem State.setLine_lock (l : LineNo) (x : Line) : (s.setLine l x).lock = s.lock := rfl
@[simp] theorem State.setLine_armMap (l : LineNo) (x : Line) : (s.setLine l x).armMap = s.armMap := rfl
@[simp] theorem State.setLine_scale (l : LineNo) (x : Line) : (s.setLine l x).scale = s.scale := rfl
@[simp] theorem State.setLine_offset (l : LineNo) (x : Line) : (s.setLine l x).offset = s.offset := rfl
@[simp] theorem State.setLine_probes (l : LineNo) (x : Line) : (s.setLine l x).probes = s.probes := rfl
@[simp] theorem State.setLine_port (l : LineNo) (x : Line) (q : Port) : (s.setLine l x).port q = s.port q := rfl
@[simp] theorem State.setLine_role (l : LineNo) (x : Line) (q : Port) : (s.setLine l x).role q = s.role q := rfl
@[simp] theorem State.setLine_capsOf (l : LineNo) (x : Line) (q : Port) : (s.setLine l x).capsOf q = s.capsOf q := rfl
@[simp] theorem State.setLine_tankerAt (l : LineNo) (x : Line) (u : TankerSlot) : (s.setLine l x).tankerAt u = s.tankerAt u := rfl
@[simp] theorem State.setLine_compAt (l : LineNo) (x : Line) (j : Slot) : (s.setLine l x).compAt j = s.compAt j := rfl
@[simp] theorem State.setLine_probe (l : LineNo) (x : Line) (q : Port) : (s.setLine l x).probe q = s.probe q := rfl
@[simp] theorem State.setLine_armPort (l : LineNo) (x : Line) (arm : Arm) : (s.setLine l x).armPort arm = s.armPort arm := rfl
@[simp] theorem State.setLine_product_entry (l : LineNo) (x : Line) (num : Nat) : (s.setLine l x).product? num = s.product? num := rfl
@[simp] theorem State.setLine_classLimit (l : LineNo) (x : Line) (cl : ClassNo) : (s.setLine l x).classLimit cl = s.classLimit cl := rfl
@[simp] theorem State.setLine_matrixLevel (l : LineNo) (x : Line) (row col : ClassNo) : (s.setLine l x).matrixLevel row col = s.matrixLevel row col := rfl
@[simp] theorem State.setLine_program (l : LineNo) (x : Line) (num : Nat) : (s.setLine l x).program num = s.program num := rfl
@[simp] theorem State.setLine_records (l : LineNo) (x : Line) : (s.setLine l x).records = s.records := rfl
@[simp] theorem State.setLine_attention (l : LineNo) (x : Line) : (s.setLine l x).attention = s.attention := rfl
@[simp] theorem State.setLine_findTanker (l : LineNo) (x : Line) (num : Nat) : (s.setLine l x).findTanker num = s.findTanker num := rfl

/-! ### setProbe -/

@[simp] theorem State.setProbe_pending (p : Port) (x : Option Probe) : (s.setProbe p x).pending = s.pending := rfl
@[simp] theorem State.setProbe_clock (p : Port) (x : Option Probe) : (s.setProbe p x).clock = s.clock := rfl
@[simp] theorem State.setProbe_lastAdvance (p : Port) (x : Option Probe) : (s.setProbe p x).lastAdvance = s.lastAdvance := rfl
@[simp] theorem State.setProbe_tankers (p : Port) (x : Option Probe) : (s.setProbe p x).tankers = s.tankers := rfl
@[simp] theorem State.setProbe_comps (p : Port) (x : Option Probe) : (s.setProbe p x).comps = s.comps := rfl
@[simp] theorem State.setProbe_queue (p : Port) (x : Option Probe) : (s.setProbe p x).queue = s.queue := rfl
@[simp] theorem State.setProbe_catalogue (p : Port) (x : Option Probe) : (s.setProbe p x).catalogue = s.catalogue := rfl
@[simp] theorem State.setProbe_matrix (p : Port) (x : Option Probe) : (s.setProbe p x).matrix = s.matrix := rfl
@[simp] theorem State.setProbe_limits (p : Port) (x : Option Probe) : (s.setProbe p x).limits = s.limits := rfl
@[simp] theorem State.setProbe_programs (p : Port) (x : Option Probe) : (s.setProbe p x).programs = s.programs := rfl
@[simp] theorem State.setProbe_ports (p : Port) (x : Option Probe) : (s.setProbe p x).ports = s.ports := rfl
@[simp] theorem State.setProbe_lines (p : Port) (x : Option Probe) : (s.setProbe p x).lines = s.lines := rfl
@[simp] theorem State.setProbe_lock (p : Port) (x : Option Probe) : (s.setProbe p x).lock = s.lock := rfl
@[simp] theorem State.setProbe_armMap (p : Port) (x : Option Probe) : (s.setProbe p x).armMap = s.armMap := rfl
@[simp] theorem State.setProbe_scale (p : Port) (x : Option Probe) : (s.setProbe p x).scale = s.scale := rfl
@[simp] theorem State.setProbe_offset (p : Port) (x : Option Probe) : (s.setProbe p x).offset = s.offset := rfl
@[simp] theorem State.setProbe_probes (p : Port) (x : Option Probe) : (s.setProbe p x).probes = s.probes.set p x := rfl
@[simp] theorem State.setProbe_port (p : Port) (x : Option Probe) (q : Port) : (s.setProbe p x).port q = s.port q := rfl
@[simp] theorem State.setProbe_role (p : Port) (x : Option Probe) (q : Port) : (s.setProbe p x).role q = s.role q := rfl
@[simp] theorem State.setProbe_capsOf (p : Port) (x : Option Probe) (q : Port) : (s.setProbe p x).capsOf q = s.capsOf q := rfl
@[simp] theorem State.setProbe_tankerAt (p : Port) (x : Option Probe) (u : TankerSlot) : (s.setProbe p x).tankerAt u = s.tankerAt u := rfl
@[simp] theorem State.setProbe_compAt (p : Port) (x : Option Probe) (j : Slot) : (s.setProbe p x).compAt j = s.compAt j := rfl
@[simp] theorem State.setProbe_line (p : Port) (x : Option Probe) (m : LineNo) : (s.setProbe p x).line m = s.line m := rfl
@[simp] theorem State.setProbe_armPort (p : Port) (x : Option Probe) (arm : Arm) : (s.setProbe p x).armPort arm = s.armPort arm := rfl
@[simp] theorem State.setProbe_product_entry (p : Port) (x : Option Probe) (num : Nat) : (s.setProbe p x).product? num = s.product? num := rfl
@[simp] theorem State.setProbe_classLimit (p : Port) (x : Option Probe) (cl : ClassNo) : (s.setProbe p x).classLimit cl = s.classLimit cl := rfl
@[simp] theorem State.setProbe_matrixLevel (p : Port) (x : Option Probe) (row col : ClassNo) : (s.setProbe p x).matrixLevel row col = s.matrixLevel row col := rfl
@[simp] theorem State.setProbe_program (p : Port) (x : Option Probe) (num : Nat) : (s.setProbe p x).program num = s.program num := rfl
@[simp] theorem State.setProbe_records (p : Port) (x : Option Probe) : (s.setProbe p x).records = s.records := rfl
@[simp] theorem State.setProbe_attention (p : Port) (x : Option Probe) : (s.setProbe p x).attention = s.attention := rfl
@[simp] theorem State.setProbe_findTanker (p : Port) (x : Option Probe) (num : Nat) : (s.setProbe p x).findTanker num = s.findTanker num := rfl

/-! ### driveLatches -/

@[simp] theorem State.driveLatches_pending : s.driveLatches.pending = s.pending := rfl
@[simp] theorem State.driveLatches_clock : s.driveLatches.clock = s.clock := rfl
@[simp] theorem State.driveLatches_lastAdvance : s.driveLatches.lastAdvance = s.lastAdvance := rfl
@[simp] theorem State.driveLatches_tankers : s.driveLatches.tankers = s.tankers := rfl
@[simp] theorem State.driveLatches_comps : s.driveLatches.comps = s.comps := rfl
@[simp] theorem State.driveLatches_queue : s.driveLatches.queue = s.queue := rfl
@[simp] theorem State.driveLatches_catalogue : s.driveLatches.catalogue = s.catalogue := rfl
@[simp] theorem State.driveLatches_matrix : s.driveLatches.matrix = s.matrix := rfl
@[simp] theorem State.driveLatches_limits : s.driveLatches.limits = s.limits := rfl
@[simp] theorem State.driveLatches_programs : s.driveLatches.programs = s.programs := rfl
@[simp] theorem State.driveLatches_ports : s.driveLatches.ports = s.ports := rfl
@[simp] theorem State.driveLatches_lines : s.driveLatches.lines = s.lines.map s.follow := rfl
@[simp] theorem State.driveLatches_lock : s.driveLatches.lock = s.lock := rfl
@[simp] theorem State.driveLatches_armMap : s.driveLatches.armMap = s.armMap := rfl
@[simp] theorem State.driveLatches_scale : s.driveLatches.scale = s.scale := rfl
@[simp] theorem State.driveLatches_offset : s.driveLatches.offset = s.offset := rfl
@[simp] theorem State.driveLatches_probes : s.driveLatches.probes = s.probes := rfl
@[simp] theorem State.driveLatches_port (q : Port) : s.driveLatches.port q = s.port q := rfl
@[simp] theorem State.driveLatches_role (q : Port) : s.driveLatches.role q = s.role q := rfl
@[simp] theorem State.driveLatches_capsOf (q : Port) : s.driveLatches.capsOf q = s.capsOf q := rfl
@[simp] theorem State.driveLatches_tankerAt (u : TankerSlot) : s.driveLatches.tankerAt u = s.tankerAt u := rfl
@[simp] theorem State.driveLatches_compAt (j : Slot) : s.driveLatches.compAt j = s.compAt j := rfl
@[simp] theorem State.driveLatches_probe (q : Port) : s.driveLatches.probe q = s.probe q := rfl
@[simp] theorem State.driveLatches_armPort (arm : Arm) : s.driveLatches.armPort arm = s.armPort arm := rfl
@[simp] theorem State.driveLatches_product_entry (num : Nat) : s.driveLatches.product? num = s.product? num := rfl
@[simp] theorem State.driveLatches_classLimit (cl : ClassNo) : s.driveLatches.classLimit cl = s.classLimit cl := rfl
@[simp] theorem State.driveLatches_matrixLevel (row col : ClassNo) : s.driveLatches.matrixLevel row col = s.matrixLevel row col := rfl
@[simp] theorem State.driveLatches_program (num : Nat) : s.driveLatches.program num = s.program num := rfl
@[simp] theorem State.driveLatches_records : s.driveLatches.records = s.records := rfl
@[simp] theorem State.driveLatches_attention : s.driveLatches.attention = s.attention := rfl
@[simp] theorem State.driveLatches_findTanker (num : Nat) : s.driveLatches.findTanker num = s.findTanker num := rfl

/-! ### reply -/

@[simp] theorem State.reply_pending (p : Port) (n : Nat) (a : Answer) : (s.reply p n a).pending = s.pending := rfl
@[simp] theorem State.reply_clock (p : Port) (n : Nat) (a : Answer) : (s.reply p n a).clock = s.clock := rfl
@[simp] theorem State.reply_lastAdvance (p : Port) (n : Nat) (a : Answer) : (s.reply p n a).lastAdvance = s.lastAdvance := rfl
@[simp] theorem State.reply_tankers (p : Port) (n : Nat) (a : Answer) : (s.reply p n a).tankers = s.tankers := rfl
@[simp] theorem State.reply_comps (p : Port) (n : Nat) (a : Answer) : (s.reply p n a).comps = s.comps := rfl
@[simp] theorem State.reply_queue (p : Port) (n : Nat) (a : Answer) : (s.reply p n a).queue = s.queue := rfl
@[simp] theorem State.reply_catalogue (p : Port) (n : Nat) (a : Answer) : (s.reply p n a).catalogue = s.catalogue := rfl
@[simp] theorem State.reply_matrix (p : Port) (n : Nat) (a : Answer) : (s.reply p n a).matrix = s.matrix := rfl
@[simp] theorem State.reply_limits (p : Port) (n : Nat) (a : Answer) : (s.reply p n a).limits = s.limits := rfl
@[simp] theorem State.reply_programs (p : Port) (n : Nat) (a : Answer) : (s.reply p n a).programs = s.programs := rfl
@[simp] theorem State.reply_lines (p : Port) (n : Nat) (a : Answer) : (s.reply p n a).lines = s.lines := rfl
@[simp] theorem State.reply_lock (p : Port) (n : Nat) (a : Answer) : (s.reply p n a).lock = s.lock := rfl
@[simp] theorem State.reply_armMap (p : Port) (n : Nat) (a : Answer) : (s.reply p n a).armMap = s.armMap := rfl
@[simp] theorem State.reply_scale (p : Port) (n : Nat) (a : Answer) : (s.reply p n a).scale = s.scale := rfl
@[simp] theorem State.reply_offset (p : Port) (n : Nat) (a : Answer) : (s.reply p n a).offset = s.offset := rfl
@[simp] theorem State.reply_probes (p : Port) (n : Nat) (a : Answer) : (s.reply p n a).probes = s.probes := rfl
@[simp] theorem State.reply_tankerAt (p : Port) (n : Nat) (a : Answer) (u : TankerSlot) : (s.reply p n a).tankerAt u = s.tankerAt u := rfl
@[simp] theorem State.reply_compAt (p : Port) (n : Nat) (a : Answer) (j : Slot) : (s.reply p n a).compAt j = s.compAt j := rfl
@[simp] theorem State.reply_line (p : Port) (n : Nat) (a : Answer) (m : LineNo) : (s.reply p n a).line m = s.line m := rfl
@[simp] theorem State.reply_probe (p : Port) (n : Nat) (a : Answer) (q : Port) : (s.reply p n a).probe q = s.probe q := rfl
@[simp] theorem State.reply_armPort (p : Port) (n : Nat) (a : Answer) (arm : Arm) : (s.reply p n a).armPort arm = s.armPort arm := rfl
@[simp] theorem State.reply_product_entry (p : Port) (n : Nat) (a : Answer) (num : Nat) : (s.reply p n a).product? num = s.product? num := rfl
@[simp] theorem State.reply_classLimit (p : Port) (n : Nat) (a : Answer) (cl : ClassNo) : (s.reply p n a).classLimit cl = s.classLimit cl := rfl
@[simp] theorem State.reply_matrixLevel (p : Port) (n : Nat) (a : Answer) (row col : ClassNo) : (s.reply p n a).matrixLevel row col = s.matrixLevel row col := rfl
@[simp] theorem State.reply_program (p : Port) (n : Nat) (a : Answer) (num : Nat) : (s.reply p n a).program num = s.program num := rfl
@[simp] theorem State.reply_records (p : Port) (n : Nat) (a : Answer) : (s.reply p n a).records = s.records := rfl
@[simp] theorem State.reply_attention (p : Port) (n : Nat) (a : Answer) : (s.reply p n a).attention = s.attention := rfl
@[simp] theorem State.reply_findTanker (p : Port) (n : Nat) (a : Answer) (num : Nat) : (s.reply p n a).findTanker num = s.findTanker num := rfl

/-! ### enqueueTail -/

@[simp] theorem State.enqueueTail_pending (k : Slot) (c : Comp) (b : Booking) (pl : Plan) : (s.enqueueTail k c b pl).pending = s.pending := rfl
@[simp] theorem State.enqueueTail_clock (k : Slot) (c : Comp) (b : Booking) (pl : Plan) : (s.enqueueTail k c b pl).clock = s.clock := rfl
@[simp] theorem State.enqueueTail_lastAdvance (k : Slot) (c : Comp) (b : Booking) (pl : Plan) : (s.enqueueTail k c b pl).lastAdvance = s.lastAdvance := rfl
@[simp] theorem State.enqueueTail_tankers (k : Slot) (c : Comp) (b : Booking) (pl : Plan) : (s.enqueueTail k c b pl).tankers = s.tankers := rfl
@[simp] theorem State.enqueueTail_comps (k : Slot) (c : Comp) (b : Booking) (pl : Plan) : (s.enqueueTail k c b pl).comps = s.comps.set k (some (c.withSt (.queued b pl))) := rfl
@[simp] theorem State.enqueueTail_queue (k : Slot) (c : Comp) (b : Booking) (pl : Plan) : (s.enqueueTail k c b pl).queue = s.atTail b.priority c.entry := rfl
@[simp] theorem State.enqueueTail_catalogue (k : Slot) (c : Comp) (b : Booking) (pl : Plan) : (s.enqueueTail k c b pl).catalogue = s.catalogue := rfl
@[simp] theorem State.enqueueTail_matrix (k : Slot) (c : Comp) (b : Booking) (pl : Plan) : (s.enqueueTail k c b pl).matrix = s.matrix := rfl
@[simp] theorem State.enqueueTail_limits (k : Slot) (c : Comp) (b : Booking) (pl : Plan) : (s.enqueueTail k c b pl).limits = s.limits := rfl
@[simp] theorem State.enqueueTail_programs (k : Slot) (c : Comp) (b : Booking) (pl : Plan) : (s.enqueueTail k c b pl).programs = s.programs := rfl
@[simp] theorem State.enqueueTail_ports (k : Slot) (c : Comp) (b : Booking) (pl : Plan) : (s.enqueueTail k c b pl).ports = s.ports := rfl
@[simp] theorem State.enqueueTail_lines (k : Slot) (c : Comp) (b : Booking) (pl : Plan) : (s.enqueueTail k c b pl).lines = s.lines := rfl
@[simp] theorem State.enqueueTail_lock (k : Slot) (c : Comp) (b : Booking) (pl : Plan) : (s.enqueueTail k c b pl).lock = s.lock := rfl
@[simp] theorem State.enqueueTail_armMap (k : Slot) (c : Comp) (b : Booking) (pl : Plan) : (s.enqueueTail k c b pl).armMap = s.armMap := rfl
@[simp] theorem State.enqueueTail_scale (k : Slot) (c : Comp) (b : Booking) (pl : Plan) : (s.enqueueTail k c b pl).scale = s.scale := rfl
@[simp] theorem State.enqueueTail_offset (k : Slot) (c : Comp) (b : Booking) (pl : Plan) : (s.enqueueTail k c b pl).offset = s.offset := rfl
@[simp] theorem State.enqueueTail_probes (k : Slot) (c : Comp) (b : Booking) (pl : Plan) : (s.enqueueTail k c b pl).probes = s.probes := rfl
@[simp] theorem State.enqueueTail_port (k : Slot) (c : Comp) (b : Booking) (pl : Plan) (q : Port) : (s.enqueueTail k c b pl).port q = s.port q := rfl
@[simp] theorem State.enqueueTail_role (k : Slot) (c : Comp) (b : Booking) (pl : Plan) (q : Port) : (s.enqueueTail k c b pl).role q = s.role q := rfl
@[simp] theorem State.enqueueTail_capsOf (k : Slot) (c : Comp) (b : Booking) (pl : Plan) (q : Port) : (s.enqueueTail k c b pl).capsOf q = s.capsOf q := rfl
@[simp] theorem State.enqueueTail_tankerAt (k : Slot) (c : Comp) (b : Booking) (pl : Plan) (u : TankerSlot) : (s.enqueueTail k c b pl).tankerAt u = s.tankerAt u := rfl
@[simp] theorem State.enqueueTail_line (k : Slot) (c : Comp) (b : Booking) (pl : Plan) (m : LineNo) : (s.enqueueTail k c b pl).line m = s.line m := rfl
@[simp] theorem State.enqueueTail_probe (k : Slot) (c : Comp) (b : Booking) (pl : Plan) (q : Port) : (s.enqueueTail k c b pl).probe q = s.probe q := rfl
@[simp] theorem State.enqueueTail_armPort (k : Slot) (c : Comp) (b : Booking) (pl : Plan) (arm : Arm) : (s.enqueueTail k c b pl).armPort arm = s.armPort arm := rfl
@[simp] theorem State.enqueueTail_product_entry (k : Slot) (c : Comp) (b : Booking) (pl : Plan) (num : Nat) : (s.enqueueTail k c b pl).product? num = s.product? num := rfl
@[simp] theorem State.enqueueTail_classLimit (k : Slot) (c : Comp) (b : Booking) (pl : Plan) (cl : ClassNo) : (s.enqueueTail k c b pl).classLimit cl = s.classLimit cl := rfl
@[simp] theorem State.enqueueTail_matrixLevel (k : Slot) (c : Comp) (b : Booking) (pl : Plan) (row col : ClassNo) : (s.enqueueTail k c b pl).matrixLevel row col = s.matrixLevel row col := rfl
@[simp] theorem State.enqueueTail_program (k : Slot) (c : Comp) (b : Booking) (pl : Plan) (num : Nat) : (s.enqueueTail k c b pl).program num = s.program num := rfl
@[simp] theorem State.enqueueTail_findTanker (k : Slot) (c : Comp) (b : Booking) (pl : Plan) (num : Nat) : (s.enqueueTail k c b pl).findTanker num = s.findTanker num := rfl

/-! ### enqueueHead -/

@[simp] theorem State.enqueueHead_pending (k : Slot) (c : Comp) (b : Booking) (pl : Plan) : (s.enqueueHead k c b pl).pending = s.pending := rfl
@[simp] theorem State.enqueueHead_clock (k : Slot) (c : Comp) (b : Booking) (pl : Plan) : (s.enqueueHead k c b pl).clock = s.clock := rfl
@[simp] theorem State.enqueueHead_lastAdvance (k : Slot) (c : Comp) (b : Booking) (pl : Plan) : (s.enqueueHead k c b pl).lastAdvance = s.lastAdvance := rfl
@[simp] theorem State.enqueueHead_tankers (k : Slot) (c : Comp) (b : Booking) (pl : Plan) : (s.enqueueHead k c b pl).tankers = s.tankers := rfl
@[simp] theorem State.enqueueHead_comps (k : Slot) (c : Comp) (b : Booking) (pl : Plan) : (s.enqueueHead k c b pl).comps = s.comps.set k (some (c.withSt (.queued b pl))) := rfl
@[simp] theorem State.enqueueHead_queue (k : Slot) (c : Comp) (b : Booking) (pl : Plan) : (s.enqueueHead k c b pl).queue = s.atHead b.priority c.entry := rfl
@[simp] theorem State.enqueueHead_catalogue (k : Slot) (c : Comp) (b : Booking) (pl : Plan) : (s.enqueueHead k c b pl).catalogue = s.catalogue := rfl
@[simp] theorem State.enqueueHead_matrix (k : Slot) (c : Comp) (b : Booking) (pl : Plan) : (s.enqueueHead k c b pl).matrix = s.matrix := rfl
@[simp] theorem State.enqueueHead_limits (k : Slot) (c : Comp) (b : Booking) (pl : Plan) : (s.enqueueHead k c b pl).limits = s.limits := rfl
@[simp] theorem State.enqueueHead_programs (k : Slot) (c : Comp) (b : Booking) (pl : Plan) : (s.enqueueHead k c b pl).programs = s.programs := rfl
@[simp] theorem State.enqueueHead_ports (k : Slot) (c : Comp) (b : Booking) (pl : Plan) : (s.enqueueHead k c b pl).ports = s.ports := rfl
@[simp] theorem State.enqueueHead_lines (k : Slot) (c : Comp) (b : Booking) (pl : Plan) : (s.enqueueHead k c b pl).lines = s.lines := rfl
@[simp] theorem State.enqueueHead_lock (k : Slot) (c : Comp) (b : Booking) (pl : Plan) : (s.enqueueHead k c b pl).lock = s.lock := rfl
@[simp] theorem State.enqueueHead_armMap (k : Slot) (c : Comp) (b : Booking) (pl : Plan) : (s.enqueueHead k c b pl).armMap = s.armMap := rfl
@[simp] theorem State.enqueueHead_scale (k : Slot) (c : Comp) (b : Booking) (pl : Plan) : (s.enqueueHead k c b pl).scale = s.scale := rfl
@[simp] theorem State.enqueueHead_offset (k : Slot) (c : Comp) (b : Booking) (pl : Plan) : (s.enqueueHead k c b pl).offset = s.offset := rfl
@[simp] theorem State.enqueueHead_probes (k : Slot) (c : Comp) (b : Booking) (pl : Plan) : (s.enqueueHead k c b pl).probes = s.probes := rfl
@[simp] theorem State.enqueueHead_port (k : Slot) (c : Comp) (b : Booking) (pl : Plan) (q : Port) : (s.enqueueHead k c b pl).port q = s.port q := rfl
@[simp] theorem State.enqueueHead_role (k : Slot) (c : Comp) (b : Booking) (pl : Plan) (q : Port) : (s.enqueueHead k c b pl).role q = s.role q := rfl
@[simp] theorem State.enqueueHead_capsOf (k : Slot) (c : Comp) (b : Booking) (pl : Plan) (q : Port) : (s.enqueueHead k c b pl).capsOf q = s.capsOf q := rfl
@[simp] theorem State.enqueueHead_tankerAt (k : Slot) (c : Comp) (b : Booking) (pl : Plan) (u : TankerSlot) : (s.enqueueHead k c b pl).tankerAt u = s.tankerAt u := rfl
@[simp] theorem State.enqueueHead_line (k : Slot) (c : Comp) (b : Booking) (pl : Plan) (m : LineNo) : (s.enqueueHead k c b pl).line m = s.line m := rfl
@[simp] theorem State.enqueueHead_probe (k : Slot) (c : Comp) (b : Booking) (pl : Plan) (q : Port) : (s.enqueueHead k c b pl).probe q = s.probe q := rfl
@[simp] theorem State.enqueueHead_armPort (k : Slot) (c : Comp) (b : Booking) (pl : Plan) (arm : Arm) : (s.enqueueHead k c b pl).armPort arm = s.armPort arm := rfl
@[simp] theorem State.enqueueHead_product_entry (k : Slot) (c : Comp) (b : Booking) (pl : Plan) (num : Nat) : (s.enqueueHead k c b pl).product? num = s.product? num := rfl
@[simp] theorem State.enqueueHead_classLimit (k : Slot) (c : Comp) (b : Booking) (pl : Plan) (cl : ClassNo) : (s.enqueueHead k c b pl).classLimit cl = s.classLimit cl := rfl
@[simp] theorem State.enqueueHead_matrixLevel (k : Slot) (c : Comp) (b : Booking) (pl : Plan) (row col : ClassNo) : (s.enqueueHead k c b pl).matrixLevel row col = s.matrixLevel row col := rfl
@[simp] theorem State.enqueueHead_program (k : Slot) (c : Comp) (b : Booking) (pl : Plan) (num : Nat) : (s.enqueueHead k c b pl).program num = s.program num := rfl
@[simp] theorem State.enqueueHead_findTanker (k : Slot) (c : Comp) (b : Booking) (pl : Plan) (num : Nat) : (s.enqueueHead k c b pl).findTanker num = s.findTanker num := rfl

/-! ### dequeue -/

@[simp] theorem State.dequeue_pending (e : Entry) : (s.dequeue e).pending = s.pending := rfl
@[simp] theorem State.dequeue_clock (e : Entry) : (s.dequeue e).clock = s.clock := rfl
@[simp] theorem State.dequeue_lastAdvance (e : Entry) : (s.dequeue e).lastAdvance = s.lastAdvance := rfl
@[simp] theorem State.dequeue_tankers (e : Entry) : (s.dequeue e).tankers = s.tankers := rfl
@[simp] theorem State.dequeue_comps (e : Entry) : (s.dequeue e).comps = s.comps := rfl
@[simp] theorem State.dequeue_queue (e : Entry) : (s.dequeue e).queue = s.queue.filter fun x => x != e := rfl
@[simp] theorem State.dequeue_catalogue (e : Entry) : (s.dequeue e).catalogue = s.catalogue := rfl
@[simp] theorem State.dequeue_matrix (e : Entry) : (s.dequeue e).matrix = s.matrix := rfl
@[simp] theorem State.dequeue_limits (e : Entry) : (s.dequeue e).limits = s.limits := rfl
@[simp] theorem State.dequeue_programs (e : Entry) : (s.dequeue e).programs = s.programs := rfl
@[simp] theorem State.dequeue_ports (e : Entry) : (s.dequeue e).ports = s.ports := rfl
@[simp] theorem State.dequeue_lines (e : Entry) : (s.dequeue e).lines = s.lines := rfl
@[simp] theorem State.dequeue_lock (e : Entry) : (s.dequeue e).lock = s.lock := rfl
@[simp] theorem State.dequeue_armMap (e : Entry) : (s.dequeue e).armMap = s.armMap := rfl
@[simp] theorem State.dequeue_scale (e : Entry) : (s.dequeue e).scale = s.scale := rfl
@[simp] theorem State.dequeue_offset (e : Entry) : (s.dequeue e).offset = s.offset := rfl
@[simp] theorem State.dequeue_probes (e : Entry) : (s.dequeue e).probes = s.probes := rfl
@[simp] theorem State.dequeue_port (e : Entry) (q : Port) : (s.dequeue e).port q = s.port q := rfl
@[simp] theorem State.dequeue_role (e : Entry) (q : Port) : (s.dequeue e).role q = s.role q := rfl
@[simp] theorem State.dequeue_capsOf (e : Entry) (q : Port) : (s.dequeue e).capsOf q = s.capsOf q := rfl
@[simp] theorem State.dequeue_tankerAt (e : Entry) (u : TankerSlot) : (s.dequeue e).tankerAt u = s.tankerAt u := rfl
@[simp] theorem State.dequeue_compAt (e : Entry) (j : Slot) : (s.dequeue e).compAt j = s.compAt j := rfl
@[simp] theorem State.dequeue_line (e : Entry) (m : LineNo) : (s.dequeue e).line m = s.line m := rfl
@[simp] theorem State.dequeue_probe (e : Entry) (q : Port) : (s.dequeue e).probe q = s.probe q := rfl
@[simp] theorem State.dequeue_armPort (e : Entry) (arm : Arm) : (s.dequeue e).armPort arm = s.armPort arm := rfl
@[simp] theorem State.dequeue_product_entry (e : Entry) (num : Nat) : (s.dequeue e).product? num = s.product? num := rfl
@[simp] theorem State.dequeue_classLimit (e : Entry) (cl : ClassNo) : (s.dequeue e).classLimit cl = s.classLimit cl := rfl
@[simp] theorem State.dequeue_matrixLevel (e : Entry) (row col : ClassNo) : (s.dequeue e).matrixLevel row col = s.matrixLevel row col := rfl
@[simp] theorem State.dequeue_program (e : Entry) (num : Nat) : (s.dequeue e).program num = s.program num := rfl
@[simp] theorem State.dequeue_records (e : Entry) : (s.dequeue e).records = s.records := rfl
@[simp] theorem State.dequeue_attention (e : Entry) : (s.dequeue e).attention = s.attention := rfl
@[simp] theorem State.dequeue_findTanker (e : Entry) (num : Nat) : (s.dequeue e).findTanker num = s.findTanker num := rfl

/-! ### Reading what was written -/

@[simp] theorem PerPort.get_set {α : Type} (v : PerPort α) (p q : Port) (x : α) :
    (v.set p x).get q = if q = p then x else v.get q := by
  cases p <;> cases q <;> rfl

theorem PerPort.ext_get {α : Type} {v w : PerPort α} (h : ∀ q, v.get q = w.get q) : v = w := by
  have hA := h .A
  have hB := h .B
  have hC := h .C
  have hD := h .D
  have hE := h .E
  have hF := h .F
  cases v
  cases w
  simp_all [PerPort.get]

@[simp] theorem PerPort.get_map {α β : Type} (f : α → β) (v : PerPort α) (q : Port) : (v.map f).get q = f (v.get q) := by
  cases q <;> rfl

@[simp] theorem PerPort.set_get {α : Type} (v : PerPort α) (p : Port) : v.set p (v.get p) = v := by
  cases p <;> rfl

@[simp] theorem PerPort.set_set {α : Type} (v : PerPort α) (p : Port) (x y : α) : (v.set p x).set p y = v.set p y := by
  cases p <;> rfl

theorem State.port_setPort (p q : Port) (r : PortRec) : (s.setPort p r).port q = if q = p then r else s.port q := by
  simp [State.port]

@[simp] theorem State.port_setPort_self (p : Port) (r : PortRec) : (s.setPort p r).port p = r := by
  simp [State.port]

theorem State.port_setPort_ne {p q : Port} (r : PortRec) (h : q ≠ p) : (s.setPort p r).port q = s.port q := by
  simp [State.port, h]

@[simp] theorem State.setPort_port (p : Port) : s.setPort p (s.port p) = s := by
  simp [State.setPort, State.port]

@[simp] theorem State.setPort_setPort (p : Port) (r r' : PortRec) : (s.setPort p r).setPort p r' = s.setPort p r' := by
  simp [State.setPort]

theorem State.compAt_setComp (k j : Slot) (c : Comp) :
    (s.setComp k c).compAt j = if j = k then some c else s.compAt j := by
  simp only [State.compAt, State.setComp_comps, Fin.getElem_fin, Vector.getElem_set, Fin.val_inj, eq_comm]

@[simp] theorem State.compAt_setComp_self (k : Slot) (c : Comp) : (s.setComp k c).compAt k = some c := by
  simp [State.compAt_setComp]

theorem State.compAt_freeComp (k j : Slot) : (s.freeComp k).compAt j = if j = k then none else s.compAt j := by
  simp only [State.compAt, State.freeComp_comps, Fin.getElem_fin, Vector.getElem_set, Fin.val_inj, eq_comm]

theorem State.compAt_enqueueTail (k j : Slot) (c : Comp) (b : Booking) (pl : Plan) :
    (s.enqueueTail k c b pl).compAt j = if j = k then some (c.withSt (.queued b pl)) else s.compAt j := by
  simp only [State.compAt, State.enqueueTail_comps, Fin.getElem_fin, Vector.getElem_set, Fin.val_inj, eq_comm]

theorem State.compAt_enqueueHead (k j : Slot) (c : Comp) (b : Booking) (pl : Plan) :
    (s.enqueueHead k c b pl).compAt j = if j = k then some (c.withSt (.queued b pl)) else s.compAt j := by
  simp only [State.compAt, State.enqueueHead_comps, Fin.getElem_fin, Vector.getElem_set, Fin.val_inj, eq_comm]

theorem State.tankerAt_setTanker (t u : TankerSlot) (k : Option Tanker) :
    (s.setTanker t k).tankerAt u = if u = t then k else s.tankerAt u := by
  simp only [State.tankerAt, State.setTanker_tankers, Fin.getElem_fin, Vector.getElem_set, Fin.val_inj, eq_comm]

theorem State.line_setLine (l m : LineNo) (x : Line) : (s.setLine l x).line m = if m = l then x else s.line m := by
  simp only [State.line, State.setLine_lines, Fin.getElem_fin, Vector.getElem_set, Fin.val_inj, eq_comm]

@[simp] theorem State.line_setLine_self (l : LineNo) (x : Line) : (s.setLine l x).line l = x := by
  simp [State.line_setLine]

@[simp] theorem State.setLine_line (l : LineNo) : s.setLine l (s.line l) = s := by
  simp [State.setLine, State.line]

@[simp] theorem State.setProbe_probe (p : Port) : s.setProbe p (s.probe p) = s := by
  simp [State.setProbe, State.probe]

@[simp] theorem State.setLine_setLine (l : LineNo) (x y : Line) : (s.setLine l x).setLine l y = s.setLine l y := by
  simp [State.setLine]

@[simp] theorem State.setComp_setComp (k : Slot) (c d : Comp) : (s.setComp k c).setComp k d = s.setComp k d := by
  simp [State.setComp]

theorem State.setComp_compAt {k : Slot} {c : Comp} (h : s.compAt k = some c) : s.setComp k c = s := by
  simp only [State.setComp, ← h, State.compAt]
  simp

theorem State.setTanker_tankerAt {t : TankerSlot} {k : Option Tanker} (h : s.tankerAt t = k) : s.setTanker t k = s := by
  simp only [State.setTanker, ← h, State.tankerAt]
  simp

theorem State.line_driveLatches (m : LineNo) : s.driveLatches.line m = s.follow (s.line m) := by
  simp [State.line]

theorem State.probe_setProbe (p q : Port) (x : Option Probe) :
    (s.setProbe p x).probe q = if q = p then x else s.probe q := by
  simp [State.probe]

/-! ### A reply changes only the link of its port -/

theorem State.port_reply (p q : Port) (n : Nat) (a : Answer) :
    (s.reply p n a).port q = if q = p then
      { s.port p with
        rx := .replying { typeByte := BitVec.ofNat 8 (n % 128 + 128), payload := s.replyPayload p a }
        flags := noFlags }
      else s.port q := by
  rw [State.reply, State.port_setPort]

@[simp] theorem State.role_reply (p q : Port) (n : Nat) (a : Answer) : (s.reply p n a).role q = s.role q := by
  simp only [State.role, State.port_reply]
  split_ifs <;> simp_all

@[simp] theorem State.capsOf_reply (p q : Port) (n : Nat) (a : Answer) : (s.reply p n a).capsOf q = s.capsOf q := by
  simp only [State.capsOf, State.role_reply, State.port_reply]
  split_ifs <;> simp_all

/-- Putting the port's link back undoes a reply. -/
theorem State.setPort_reply (p : Port) (n : Nat) (a : Answer) (r : PortRec) :
    (s.reply p n a).setPort p r = s.setPort p r := by
  simp [State.reply]

/-! ### A record that catches up with the advance it owed -/

/-- All that catching up can do: nothing, where nothing is owed or an expiry still is; else the record counts the advance
and owes nothing. -/
theorem Comp.caughtUp_cases (c : Comp) :
    c.caughtUp = c ∧ (c.advanceDue = false ∨ c.nextExpiry ≠ none) ∨
    c.caughtUp = c.counted.settled ∧ c.advanceDue = true ∧ c.nextExpiry = none := by
  by_cases h : c.advanceDue = true ∧ c.nextExpiry = none
  · exact .inr ⟨if_pos h, h⟩
  · exact .inl ⟨if_neg h, by simpa [Classical.or_iff_not_imp_left] using h⟩

/-- A record that owes nothing is caught up. -/
theorem Comp.caughtUp_of_not_due {c : Comp} (h : c.advanceDue = false) : c.caughtUp = c :=
  if_neg fun h' => by simp [h] at h'

end Sys2Proof.Machine
end

