-- ==== Sys2Proof/Laws/Chain.lean ====
section
/-! SUPPORT. What the searches over the tables find, and what each check of the chain lets through (R163 to R167). -/

namespace Sys2Proof.Machine

variable {s : State}

/-! ### Finding a tanker and a compartment -/

theorem State.findTanker_some {tag : Nat} {t : TankerSlot} {k : Tanker} (h : s.findTanker tag = some (t, k)) :
    s.tankerAt t = some k ∧ k.tag = tag := by
  obtain ⟨u, -, hu⟩ := List.exists_of_findSome?_eq_some h
  split at hu
  · split_ifs at hu with htag
    simp only [Option.some.injEq, Prod.mk.injEq] at hu
    obtain ⟨rfl, rfl⟩ := hu
    exact ⟨‹_›, htag⟩
  · cases hu

theorem State.findTanker_eq_none {tag : Nat} :
    s.findTanker tag = none ↔ ∀ t k, s.tankerAt t = some k → k.tag ≠ tag := by
  simp only [State.findTanker, List.findSome?_eq_none_iff, List.mem_finRange, forall_const]
  constructor
  · intro h t k hk htag
    simpa [hk, htag] using h t
  · intro h t
    split
    · rw [if_neg (h t _ ‹_›)]
    · rfl

/-- With no tag held twice, the tanker that holds a tag is the one found. -/
theorem State.findTanker_of_tag (hu : s.tablesAgree) {tag : Nat} {t : TankerSlot} {k : Tanker}
    (hk : s.tankerAt t = some k) (htag : k.tag = tag) : s.findTanker tag = some (t, k) := by
  cases h : s.findTanker tag with
  | none => exact absurd htag (State.findTanker_eq_none.1 h t k hk)
  | some x =>
    obtain ⟨u, l⟩ := x
    obtain ⟨hl, hltag⟩ := State.findTanker_some h
    obtain rfl : u = t := hu.2.2 u t l k hl hk (hltag.trans htag.symm)
    rw [hk] at hl
    cases hl
    rfl

/-- What a compartment found is: its tanker holds the tag, its index is one of the tanker's, and the record stands in the
slot of the two. -/
theorem State.find_some {tag index : Nat} {f : Found} (h : s.find tag index = some f) :
    s.findTanker tag = some (f.tslot, f.tanker) ∧ (1 ≤ index ∧ index ≤ f.tanker.count) ∧
      f.slot = compSlot f.tslot index ∧ s.compAt f.slot = some f.comp := by
  rw [State.find] at h
  split at h
  · cases h
  · split_ifs at h with hi
    split at h
    · cases h
      exact ⟨‹_›, hi, rfl, ‹_›⟩
    · cases h

theorem State.find_compAt {tag index : Nat} {f : Found} (h : s.find tag index = some f) :
    s.compAt f.slot = some f.comp := (State.find_some h).2.2.2

theorem State.find_eq_none {tag index : Nat} {t : TankerSlot} {k : Tanker} (h : s.findTanker tag = some (t, k))
    (hi : k.count < index) : s.find tag index = none := by
  rw [State.find, h]
  exact if_neg fun hn => absurd hn.2 (Nat.not_le.2 hi)

theorem compSlot_val (t : TankerSlot) {index : Nat} (h1 : 1 ≤ index) (h6 : index ≤ 6) :
    (compSlot t index).val = t.val * 6 + (index - 1) := by
  have ht := t.isLt
  simp only [compSlot, Fin.ofNat]
  omega

/-- Different addresses name different slots (R2). -/
theorem compSlot_inj {t u : TankerSlot} {i j : Nat} (hi : 1 ≤ i) (hi6 : i ≤ 6) (hj : 1 ≤ j) (hj6 : j ≤ 6)
    (h : compSlot t i = compSlot u j) : t = u ∧ i = j := by
  have hv := congrArg Fin.val h
  rw [compSlot_val t hi hi6, compSlot_val u hj hj6] at hv
  exact ⟨Fin.ext (by omega), by omega⟩

/-- Every slot is some tanker's compartment (R2). -/
theorem exists_compSlot (k : Slot) : ∃ (t : TankerSlot) (j : Fin 6), k = compSlot t (j.val + 1) := by
  have hk := k.isLt
  refine ⟨⟨k.val / 6, by omega⟩, ⟨k.val % 6, by omega⟩, Fin.ext ?_⟩
  rw [compSlot_val _ (by omega) (by simp only; omega)]
  simp only
  omega

/-! ### Searches over all records -/

theorem State.mem_records {c : Comp} : c ∈ s.records ↔ ∃ k, s.compAt k = some c := by
  simp only [State.records, List.mem_filterMap, id_eq, Vector.mem_toList_iff, Vector.mem_iff_getElem]
  constructor
  · rintro ⟨_, ⟨i, hi, rfl⟩, h⟩
    exact ⟨⟨i, hi⟩, h⟩
  · rintro ⟨k, h⟩
    exact ⟨_, ⟨k.val, k.isLt, rfl⟩, h⟩

theorem State.any_records {P : Comp → Bool} :
    s.records.any P = true ↔ ∃ k c, s.compAt k = some c ∧ P c = true := by
  simp only [List.any_eq_true, State.mem_records]
  constructor
  · rintro ⟨c, ⟨k, hk⟩, h⟩
    exact ⟨k, c, hk, h⟩
  · rintro ⟨k, c, hk, h⟩
    exact ⟨c, ⟨k, hk⟩, h⟩

theorem State.any_records_eq_false {P : Comp → Bool} :
    s.records.any P = false ↔ ∀ k c, s.compAt k = some c → P c = false := by
  rw [← Bool.not_eq_true, State.any_records]
  simp only [not_exists, not_and, Bool.not_eq_true]

theorem State.heldBy_eq_nil {p : Port} :
    s.heldBy p = [] ↔ ∀ k c, s.compAt k = some c → c.st.holder ≠ some p := by
  simp only [State.heldBy, List.filter_eq_nil_iff, State.mem_records, beq_iff_eq]
  constructor
  · intro h k c hk
    exact h c ⟨k, hk⟩
  · rintro h c ⟨k, hk⟩
    exact h k c hk

theorem State.mem_heldBy {p : Port} {c : Comp} :
    c ∈ s.heldBy p ↔ (∃ k, s.compAt k = some c) ∧ c.st.holder = some p := by
  simp [State.heldBy, State.mem_records]

theorem State.dockedTanker_some {p : Port} {t : TankerSlot} {k : Tanker} (h : s.dockedTanker p = some (t, k)) :
    s.tankerAt t = some k ∧ k.docked = some p := by
  obtain ⟨u, -, hu⟩ := List.exists_of_findSome?_eq_some h
  split at hu
  · split_ifs at hu with hd
    simp only [Option.some.injEq, Prod.mk.injEq] at hu
    obtain ⟨rfl, rfl⟩ := hu
    exact ⟨‹_›, hd⟩
  · cases hu

theorem State.dockedTanker_eq_none {p : Port} :
    s.dockedTanker p = none ↔ ∀ t k, s.tankerAt t = some k → k.docked ≠ some p := by
  simp only [State.dockedTanker, List.findSome?_eq_none_iff, List.mem_finRange, forall_const]
  constructor
  · intro h t k hk hd
    simpa [hk, hd] using h t
  · intro h t
    split
    · rw [if_neg (h t _ ‹_›)]
    · rfl

/-- With no bay docked twice, a tanker docked to a bay is the one found. -/
theorem State.dockedTanker_of_docked (hd : s.dockingsAgree) {p : Port} {t : TankerSlot} {k : Tanker}
    (hk : s.tankerAt t = some k) (hp : k.docked = some p) : s.dockedTanker p = some (t, k) := by
  cases h : s.dockedTanker p with
  | none => exact absurd hp (State.dockedTanker_eq_none.1 h t k hk)
  | some x =>
    obtain ⟨u, l⟩ := x
    obtain ⟨hl, hlp⟩ := State.dockedTanker_some h
    obtain rfl : u = t := hd.1 u t l k p hl hk hlp hp
    rw [hk] at hl
    cases hl
    rfl

theorem State.fillOn_some {a : Arm} {k : Slot} {c : Comp} (h : s.fillOn a = some (k, c)) :
    s.compAt k = some c ∧ ∃ f hs, c.st.fill = some (f, hs) ∧ f.arm = a := by
  obtain ⟨u, -, hu⟩ := List.exists_of_findSome?_eq_some h
  split at hu
  · split at hu
    · split_ifs at hu with ha
      simp only [Option.some.injEq, Prod.mk.injEq] at hu
      obtain ⟨rfl, rfl⟩ := hu
      exact ⟨‹_›, _, _, ‹_›, ha⟩
    · cases hu
  · cases hu

theorem State.fillOn_eq_none {a : Arm} :
    s.fillOn a = none ↔ ∀ k c f hs, s.compAt k = some c → c.st.fill = some (f, hs) → f.arm ≠ a := by
  simp only [State.fillOn, List.findSome?_eq_none_iff, List.mem_finRange, forall_const]
  constructor
  · intro h k c f hs hk hf ha
    simpa [hk, hf, ha] using h k
  · intro h k
    split
    · split
      · rw [if_neg (h k _ _ _ ‹_› ‹_›)]
      · rfl
    · rfl

/-- With one fill on an arm at most, a compartment filling on it is the one found. -/
theorem State.fillOn_of_fill (ho : s.oneFillEach) {a : Arm} {k : Slot} {c : Comp} {f : Fill} {hs : HaltSet}
    (hk : s.compAt k = some c) (hf : c.st.fill = some (f, hs)) (ha : f.arm = a) : s.fillOn a = some (k, c) := by
  cases h : s.fillOn a with
  | none => exact absurd ha (State.fillOn_eq_none.1 h k c f hs hk hf)
  | some x =>
    obtain ⟨j, d⟩ := x
    obtain ⟨hd, g, gs, hg, hga⟩ := State.fillOn_some h
    obtain rfl : j = k := ho j k d c g f gs hs hd hk hg hf (hga.trans ha.symm)
    rw [hk] at hd
    cases hd
    rfl

theorem State.boundLine_some {fn : Func} {l : LineNo} (h : s.boundLine fn = some l) : (s.line l).func = some fn := by
  have := List.find?_some h
  simpa using this

theorem State.boundLine_eq_none {fn : Func} : s.boundLine fn = none ↔ ∀ l, (s.line l).func ≠ some fn := by
  simp [State.boundLine]

/-- With a function instance bound to one line at most, the line bound to it is the one found. -/
theorem State.boundLine_of_func (hb : s.bindingsAgree) {fn : Func} {l : LineNo} (h : (s.line l).func = some fn) :
    s.boundLine fn = some l := by
  cases hm : s.boundLine fn with
  | none => exact absurd h (State.boundLine_eq_none.1 hm l)
  | some m => rw [hb.1 m l fn (State.boundLine_some hm) h]

theorem State.boundLevel_of_func (hb : s.bindingsAgree) {fn : Func} {l : LineNo} (h : (s.line l).func = some fn) :
    s.boundLevel fn = some (s.line l).level := by
  simp [State.boundLevel, State.boundLine_of_func hb h]

theorem State.boundLevel_eq_none {fn : Func} (h : ∀ l, (s.line l).func ≠ some fn) : s.boundLevel fn = none := by
  simp [State.boundLevel, State.boundLine_eq_none.2 h]

theorem State.probeBound_iff {p : Port} : s.probeBound p = true ↔ ∃ l, (s.line l).func = some (.rinseProbe p) := by
  rw [State.probeBound, Option.isSome_iff_ne_none, ne_eq, State.boundLine_eq_none]
  simp

/-! ### The checks -/

/-- A request that passes checks 1 and 2 is answered by its owner. -/
theorem State.serve_of_admits {p : Port} {r : ReqName} (act : State → State × Answer) (h : s.admits p r) :
    s.serve r p act = (act s).1.reply p r.code (act s).2 := by
  simp [State.serve, h.1, h.2]

/-- A request that its port's role does not permit is answered with ROLE. -/
theorem State.serve_of_not_permitted {p : Port} {r : ReqName} (act : State → State × Answer)
    (h : permitted r (s.role p) = false) : s.serve r p act = s.reply p r.code (refuse .role 0) := by
  simp [State.serve, h]

/-- A request that its port's access map names is answered with DENIED. -/
theorem State.serve_of_denied {p : Port} {r : ReqName} (act : State → State × Answer)
    (h1 : permitted r (s.role p) = true) (h2 : s.denies p r = true) :
    s.serve r p act = s.reply p r.code (refuse .denied 0) := by
  simp [State.serve, h1, h2]

/-- Everything taking a request can do. -/
theorem State.serve_cases (s : State) (r : ReqName) (p : Port) (act : State → State × Answer) :
    (permitted r (s.role p) = false ∧ s.serve r p act = s.reply p r.code (refuse .role 0)) ∨
    (permitted r (s.role p) = true ∧ s.denies p r = true ∧ s.serve r p act = s.reply p r.code (refuse .denied 0)) ∨
    (s.admits p r ∧ s.serve r p act = (act s).1.reply p r.code (act s).2) := by
  cases h1 : permitted r (s.role p) with
  | false => exact .inl ⟨rfl, State.serve_of_not_permitted act h1⟩
  | true =>
    cases h2 : s.denies p r with
    | true => exact .inr (.inl ⟨rfl, rfl, State.serve_of_denied act h1 h2⟩)
    | false => exact .inr (.inr ⟨⟨h1, h2⟩, State.serve_of_admits act ⟨h1, h2⟩⟩)

@[simp] theorem withArgs_ok (vs : List Nat) (s : State) (act : List Nat → State × Answer) :
    withArgs (.ok vs) s act = act vs := rfl

@[simp] theorem withArgs_error (d : Nat) (s : State) (act : List Nat → State × Answer) :
    withArgs (.error d) s act = (s, refuse .range d) := rfl

/-- A compartment present passes checks 4 and 5. -/
theorem State.withComp_of_find {tag index : Nat} {f : Found} (act : Found → State × Answer)
    (h : s.find tag index = some f) : s.withComp tag index act = act f := by
  have ht := (State.find_some h).1
  simp [State.withComp, ht, h]

theorem State.withComp_of_no_tanker {tag index : Nat} (act : Found → State × Answer)
    (h : s.findTanker tag = none) : s.withComp tag index act = (s, refuse .noTanker 0) := by
  simp [State.withComp, h]

theorem State.withComp_of_no_compartment {tag index : Nat} {x : TankerSlot × Tanker} (act : Found → State × Answer)
    (h : s.findTanker tag = some x) (hn : s.find tag index = none) :
    s.withComp tag index act = (s, refuse .noCompartment 0) := by
  simp [State.withComp, h, hn]

/-- Everything checks 4 and 5 can do. -/
theorem State.withComp_cases (s : State) (tag index : Nat) (act : Found → State × Answer) :
    s.withComp tag index act = (s, refuse .noTanker 0) ∨
    s.withComp tag index act = (s, refuse .noCompartment 0) ∨
    ∃ f, s.find tag index = some f ∧ s.withComp tag index act = act f := by
  cases ht : s.findTanker tag with
  | none => exact .inl (State.withComp_of_no_tanker act ht)
  | some x =>
    cases hf : s.find tag index with
    | none => exact .inr (.inl (State.withComp_of_no_compartment act ht hf))
    | some f => exact .inr (.inr ⟨f, rfl, State.withComp_of_find act hf⟩)

theorem needsHold_of_holder {p : Port} {c : Comp} (act : State × Answer) (h : c.st.holder = some p) :
    needsHold p s c act = act := by
  simp [needsHold, h]

/-- Everything check 6 of a request that needs the hold can do. -/
theorem needsHold_cases (p : Port) (s : State) (c : Comp) (act : State × Answer) :
    (c.st.holder = none ∧ needsHold p s c act = (s, refuse .notHolder 0)) ∨
    (∃ h, c.st.holder = some h ∧ h ≠ p ∧ needsHold p s c act = (s, refuse .held (portLetter h))) ∨
    (c.st.holder = some p ∧ needsHold p s c act = act) := by
  cases h : c.st.holder with
  | none => exact .inl ⟨rfl, by simp [needsHold, h]⟩
  | some q =>
    by_cases hq : q = p
    · subst hq
      exact .inr (.inr ⟨rfl, by simp [needsHold, h]⟩)
    · exact .inr (.inl ⟨q, rfl, hq, by simp [needsHold, h, hq]⟩)

theorem needsNoHolder_of_none {c : Comp} (act : State × Answer) (h : c.st.holder = none) :
    needsNoHolder s c act = act := by
  simp [needsNoHolder, h]

/-- Everything check 6 of a request that needs no holder can do. -/
theorem needsNoHolder_cases (s : State) (c : Comp) (act : State × Answer) :
    (c.st.holder = none ∧ needsNoHolder s c act = act) ∨
    (∃ h, c.st.holder = some h ∧ needsNoHolder s c act = (s, refuse .held (portLetter h))) := by
  cases h : c.st.holder with
  | none => exact .inl ⟨rfl, by simp [needsNoHolder, h]⟩
  | some q => exact .inr ⟨q, rfl, by simp [needsNoHolder, h]⟩

end Sys2Proof.Machine
end

