-- ==== Sys2Proof/Laws/Arguments.lean ====
section
/-! SUPPORT. What check 3 reads from the payload of each request whose arguments are in range (R165, R183). -/

namespace Sys2Proof.Machine

theorem checkLong_addressFields {tag index : Nat} (ht : 1 ≤ tag ∧ tag ≤ 65535) (hi : 1 ≤ index ∧ index ≤ 6) :
    checkLong addressFields (addressBytes tag index) = .ok [tag, index] := by
  refine checkLong_args rfl ?_
  simp [fieldsFit, addressFields, field]
  omega

theorem checkLong_bookFields {tag index target pr : Nat} (ht : 1 ≤ tag ∧ tag ≤ 65535) (hi : 1 ≤ index ∧ index ≤ 6)
    (hg : target ≤ 9999) (hp : 1 ≤ pr ∧ pr ≤ 2) :
    checkLong bookFields (addressBytes tag index ++ argBytes [(2, target), (1, pr)]) = .ok [tag, index, target, pr] := by
  refine checkLong_args rfl ?_
  simp [fieldsFit, bookFields, addressFields, field]
  omega

theorem checkLong_stepStartFields {tag index step : Nat} (ht : 1 ≤ tag ∧ tag ≤ 65535) (hi : 1 ≤ index ∧ index ≤ 6)
    (hs : 1 ≤ step ∧ step ≤ 6) :
    checkLong stepStartFields (addressBytes tag index ++ argBytes [(1, step)]) = .ok [tag, index, step] := by
  refine checkLong_args rfl ?_
  simp [fieldsFit, stepStartFields, addressFields, field]
  omega

theorem checkLong_washSampleFields {tag index t temp flow med : Nat} (ht : 1 ≤ tag ∧ tag ≤ 65535)
    (hi : 1 ≤ index ∧ index ≤ 6) (h1 : t ≤ 255) (h2 : temp ≤ 65535) (h3 : flow ≤ 65535) (h4 : 1 ≤ med ∧ med ≤ 6) :
    checkLong washSampleFields (addressBytes tag index ++ argBytes [(1, t), (2, temp), (2, flow), (1, med)])
      = .ok [tag, index, t, temp, flow, med] := by
  refine checkLong_args rfl ?_
  simp [fieldsFit, washSampleFields, addressFields, field, anyField]
  omega

theorem checkLong_inspectResultFields {tag index v cond ctag : Nat} (ht : 1 ≤ tag ∧ tag ≤ 65535)
    (hi : 1 ≤ index ∧ index ≤ 6) (hv : 1 ≤ v ∧ v ≤ 2) (hc : cond ≤ 65535) (hg : 1 ≤ ctag ∧ ctag ≤ 999999) :
    checkLong inspectResultFields (addressBytes tag index ++ argBytes [(1, v), (2, cond), (3, ctag)])
      = .ok [tag, index, v, cond, ctag] := by
  refine checkLong_args rfl ?_
  simp [fieldsFit, inspectResultFields, addressFields, closureTagField, field, anyField]
  omega

theorem checkLong_fillBeginFields {tag index arm product ctag : Nat} (ht : 1 ≤ tag ∧ tag ≤ 65535)
    (hi : 1 ≤ index ∧ index ≤ 6) (ha : 1 ≤ arm ∧ arm ≤ 4) (hp : 1 ≤ product ∧ product ≤ 9999)
    (hg : 1 ≤ ctag ∧ ctag ≤ 999999) :
    checkLong fillBeginFields (addressBytes tag index ++ argBytes [(1, arm), (2, product), (3, ctag)])
      = .ok [tag, index, arm, product, ctag] := by
  refine checkLong_args rfl ?_
  simp [fieldsFit, fillBeginFields, addressFields, closureTagField, field]
  omega

theorem checkLong_fillCountFields {tag index count : Nat} (ht : 1 ≤ tag ∧ tag ≤ 65535) (hi : 1 ≤ index ∧ index ≤ 6)
    (hc : count < 2 ^ 32) :
    checkLong fillCountFields (addressBytes tag index ++ argBytes [(4, count)]) = .ok [tag, index, count] := by
  refine checkLong_args rfl ?_
  simp [fieldsFit, fillCountFields, addressFields, field, anyField]
  omega

theorem checkLong_defineProductFields {code cls food after percent : Nat} (h1 : 1 ≤ code ∧ code ≤ 9999)
    (h2 : 1 ≤ cls ∧ cls ≤ 15) (h3 : food ≤ 1) (h4 : after ≤ 6) (h5 : 80 ≤ percent ∧ percent ≤ 98) :
    checkLong defineProductFields (argBytes [(2, code), (1, cls), (1, food), (1, after), (1, percent)])
      = .ok [code, cls, food, after, percent] := by
  refine checkLong_args rfl ?_
  simp [fieldsFit, defineProductFields, field]
  omega

theorem checkLong_setClassLimitFields {cls limit hours : Nat} (h1 : cls ≤ 15) (h2 : 1 ≤ limit ∧ limit ≤ 20000)
    (h3 : 1 ≤ hours ∧ hours ≤ 48) :
    checkLong setClassLimitFields (argBytes [(1, cls), (2, limit), (1, hours)]) = .ok [cls, limit, hours] := by
  refine checkLong_args rfl ?_
  simp [fieldsFit, setClassLimitFields, field]
  omega

theorem checkPayload_setTimeFields {v : Nat} (hv : v < 2 ^ 32) :
    checkPayload setTimeFields 1 (beBytes 4 v) = .ok [v] := by
  refine checkPayload_args 1 (fs := setTimeFields) (vs := [v]) rfl ?_
  simp [fieldsFit, setTimeFields, anyField]
  omega

theorem checkLong_readRecordsFields {cursor count dir : Nat} (h1 : cursor ≤ 191) (h2 : 1 ≤ count ∧ count ≤ 192)
    (h3 : dir ≤ 1) :
    checkLong readRecordsFields (argBytes [(1, cursor), (1, count), (1, dir)]) = .ok [cursor, count, dir] := by
  refine checkLong_args rfl ?_
  simp [fieldsFit, readRecordsFields, field]
  omega

/-- The four bytes of a number below 2^32 and its value agree; SET TIME loads what was sent. -/
theorem ofNat_toNat_clock (v : ClockValue) : BitVec.ofNat 32 v.toNat = v := by simp

/-- The letter code of a station port names it. -/
@[simp] theorem stationPort_portLetter {p : Port} (h : p ≠ .A) : stationPort (portLetter p) = some p := by
  cases p <;> simp_all [stationPort, portLetter]

theorem stationPort_eq_some {n : Nat} {p : Port} (h : stationPort n = some p) : n = portLetter p ∧ p ≠ .A := by
  unfold stationPort at h
  split at h <;> cases h <;> simp [portLetter]

theorem portLetter_lt (p : Port) : portLetter p < 256 := by cases p <;> decide

theorem portLetter_inj {p q : Port} (h : portLetter p = portLetter q) : p = q := by
  revert h
  cases p <;> cases q <;> decide

@[simp] theorem roleOfCode_roleCode {r : Role} (h : r ≠ .office) : roleOfCode (roleCode r) = some r := by
  cases r <;> simp_all [roleOfCode, roleCode]

@[simp] theorem capsOfCode_capsCode (c : Caps) : capsOfCode (capsCode c) = c := by
  obtain ⟨a, b, d⟩ := c
  revert a b d
  decide

theorem capsCode_le (c : Caps) : capsCode c ≤ 7 := by
  obtain ⟨a, b, d⟩ := c
  revert a b d
  decide

@[simp] theorem mediumOfCode_mediumCode (m : Medium) : mediumOfCode (mediumCode m) = m := by cases m <;> rfl

theorem mediumCode_range (m : Medium) : 1 ≤ mediumCode m ∧ mediumCode m ≤ 6 := by cases m <;> decide

theorem mediumCode_mediumOfCode {n : Nat} (h1 : 1 ≤ n) (h6 : n ≤ 6) : mediumCode (mediumOfCode n) = n := by
  interval_cases n <;> rfl

@[simp] theorem priorityOfCode_priorityCode (p : Priority) : priorityOfCode (priorityCode p) = p := by cases p <;> rfl

theorem priorityCode_range (p : Priority) : 1 ≤ priorityCode p ∧ priorityCode p ≤ 2 := by cases p <;> decide

@[simp] theorem armOfNumber_succ (a : Arm) : armOfNumber (a.val + 1) = a := by
  revert a
  decide

@[simp] theorem lineModeOfCode_lineModeCode (m : LineMode) : lineModeOfCode (lineModeCode m) = m := by cases m <;> rfl

@[simp] theorem polarityOfCode_polarityCode (p : Polarity) : polarityOfCode (polarityCode p) = p := by cases p <;> rfl

/-- The function code and instance of a function instance name it (R151). -/
theorem funcOfCode_funcCode {f : Func} (h1 : f ≠ .washEnable .A) (h2 : f ≠ .rinseProbe .A) :
    funcOfCode (funcCode f) (funcInstance f) = some f := by
  cases f with
  | ground a => revert a; decide
  | overfill a => revert a; decide
  | permit a => revert a; decide
  | alarm => rfl
  | washEnable p =>
    have hp : p ≠ .A := fun h => h1 (h ▸ rfl)
    simp [funcOfCode, funcCode, funcInstance, hp]
  | rinseProbe p =>
    have hp : p ≠ .A := fun h => h2 (h ▸ rfl)
    simp [funcOfCode, funcCode, funcInstance, hp]

/-- A signed number comes back from its two bytes. -/
theorem signedValue_signed {z : Int} (h1 : -32768 ≤ z) (h2 : z < 32768) : signedValue (z % 65536).toNat = z := by
  unfold signedValue
  split <;> omega

end Sys2Proof.Machine
end

