-- ==== Sys2Proof/Laws/PerInstr.lean ====
section
/-! SUPPORT. The shape of the frame each command stands for (R174, R183), one lemma for each constructor. -/

namespace Sys2Proof.Laws

open Sys2Proof.Machine

/-- R174: an event stands for no frame; the frame of a well-formed request is four bytes in the short form, and its payload
and six bytes more, 7 to 246 in all, in the long form. The first byte's bit 7 tells the two apart. -/
def FrameShape.Statement (i : Instr) : Prop :=
  i.wf = true →
    match i.request? with
    | none => i.frame = []
    | some (r, _, args) =>
      if r.isShort then i.frame.length = 4 ∧ i.frame.head? = some (BitVec.ofNat 8 r.code)
      else i.frame.length = args.length + 6 ∧ 7 ≤ i.frame.length ∧ i.frame.length ≤ 246 ∧
        i.frame.head? = some (BitVec.ofNat 8 r.code ||| 0x80#8)

theorem length_longFrame (ty : Byte) (payload : List Byte) : (longFrame ty payload).length = payload.length + 6 := by
  simp [longFrame, crc16Bytes]
  omega

/-- The long form for a payload of 1 to 240 bytes. -/
theorem FrameShape.long {ty : Byte} {payload : List Byte} (h : payloadWf payload = true) :
    (longFrame ty payload).length = payload.length + 6 ∧ 7 ≤ (longFrame ty payload).length ∧
      (longFrame ty payload).length ≤ 246 ∧ (longFrame ty payload).head? = some ty := by
  rw [payloadWf, Bool.and_eq_true, decide_eq_true_eq, decide_eq_true_eq] at h
  rw [length_longFrame]
  exact ⟨rfl, by omega, by omega, rfl⟩

theorem FrameShape.hardwareReset : FrameShape.Statement .hardwareReset := fun _ => rfl
theorem FrameShape.yardClockAdvance : FrameShape.Statement .yardClockAdvance := fun _ => rfl
theorem FrameShape.silenceExpiry (k : Slot) : FrameShape.Statement (.silenceExpiry k) := fun _ => rfl
theorem FrameShape.activeTimeExpiry (k : Slot) : FrameShape.Statement (.activeTimeExpiry k) := fun _ => rfl
theorem FrameShape.releaseExpiry (k : Slot) : FrameShape.Statement (.releaseExpiry k) := fun _ => rfl
theorem FrameShape.inputSample (l : LineNo) (high : Bool) : FrameShape.Statement (.inputSample l high) := fun _ => rfl
theorem FrameShape.analogConversion (l : LineNo) (raw : BitVec 10) : FrameShape.Statement (.analogConversion l raw) := fun _ => rfl
theorem FrameShape.byteReceived (p : Port) (b : Byte) : FrameShape.Statement (.byteReceived p b) := fun _ => rfl
theorem FrameShape.breakReceived (p : Port) : FrameShape.Statement (.breakReceived p) := fun _ => rfl
theorem FrameShape.gap (p : Port) : FrameShape.Statement (.gap p) := fun _ => rfl
theorem FrameShape.discardEnd (p : Port) : FrameShape.Statement (.discardEnd p) := fun _ => rfl
theorem FrameShape.replySent (p : Port) : FrameShape.Statement (.replySent p) := fun _ => rfl

theorem FrameShape.readStatus (p : Port) (b1 b2 : Byte) : FrameShape.Statement (.readStatus p b1 b2) := fun _ => ⟨rfl, rfl⟩
theorem FrameShape.readLines (p : Port) (b1 b2 : Byte) : FrameShape.Statement (.readLines p b1 b2) := fun _ => ⟨rfl, rfl⟩
theorem FrameShape.setReplyLimit (p : Port) (b1 b2 : Byte) : FrameShape.Statement (.setReplyLimit p b1 b2) := fun _ => ⟨rfl, rfl⟩
theorem FrameShape.readCompartment (p : Port) (payload : List Byte) : FrameShape.Statement (.readCompartment p payload) :=
  fun h => FrameShape.long h
theorem FrameShape.readRecords (p : Port) (payload : List Byte) : FrameShape.Statement (.readRecords p payload) :=
  fun h => FrameShape.long h
theorem FrameShape.readQueue (p : Port) (b1 b2 : Byte) : FrameShape.Statement (.readQueue p b1 b2) := fun _ => ⟨rfl, rfl⟩
theorem FrameShape.setTime (p : Port) (payload : List Byte) : FrameShape.Statement (.setTime p payload) :=
  fun h => FrameShape.long h
theorem FrameShape.defineProduct (p : Port) (payload : List Byte) : FrameShape.Statement (.defineProduct p payload) :=
  fun h => FrameShape.long h
theorem FrameShape.deleteProduct (p : Port) (b1 b2 : Byte) : FrameShape.Statement (.deleteProduct p b1 b2) := fun _ => ⟨rfl, rfl⟩
theorem FrameShape.setMatrixRow (p : Port) (payload : List Byte) : FrameShape.Statement (.setMatrixRow p payload) :=
  fun h => FrameShape.long h
theorem FrameShape.defineProgram (p : Port) (payload : List Byte) : FrameShape.Statement (.defineProgram p payload) :=
  fun h => FrameShape.long h
theorem FrameShape.setClassLimit (p : Port) (payload : List Byte) : FrameShape.Statement (.setClassLimit p payload) :=
  fun h => FrameShape.long h
theorem FrameShape.setPortRole (p : Port) (payload : List Byte) : FrameShape.Statement (.setPortRole p payload) :=
  fun h => FrameShape.long h
theorem FrameShape.setAccessMap (p : Port) (payload : List Byte) : FrameShape.Statement (.setAccessMap p payload) :=
  fun h => FrameShape.long h
theorem FrameShape.configureLine (p : Port) (payload : List Byte) : FrameShape.Statement (.configureLine p payload) :=
  fun h => FrameShape.long h
theorem FrameShape.lockLines (p : Port) (b1 b2 : Byte) : FrameShape.Statement (.lockLines p b1 b2) := fun _ => ⟨rfl, rfl⟩
theorem FrameShape.setLine (p : Port) (b1 b2 : Byte) : FrameShape.Statement (.setLine p b1 b2) := fun _ => ⟨rfl, rfl⟩
theorem FrameShape.setProbeCalibration (p : Port) (payload : List Byte) : FrameShape.Statement (.setProbeCalibration p payload) :=
  fun h => FrameShape.long h
theorem FrameShape.mapArm (p : Port) (b1 b2 : Byte) : FrameShape.Statement (.mapArm p b1 b2) := fun _ => ⟨rfl, rfl⟩
theorem FrameShape.clearYard (p : Port) (b1 b2 : Byte) : FrameShape.Statement (.clearYard p b1 b2) := fun _ => ⟨rfl, rfl⟩
theorem FrameShape.registerTanker (p : Port) (payload : List Byte) : FrameShape.Statement (.registerTanker p payload) :=
  fun h => FrameShape.long h
theorem FrameShape.book (p : Port) (payload : List Byte) : FrameShape.Statement (.book p payload) :=
  fun h => FrameShape.long h
theorem FrameShape.revoke (p : Port) (payload : List Byte) : FrameShape.Statement (.revoke p payload) :=
  fun h => FrameShape.long h
theorem FrameShape.unblock (p : Port) (payload : List Byte) : FrameShape.Statement (.unblock p payload) :=
  fun h => FrameShape.long h
theorem FrameShape.ackIncident (p : Port) (payload : List Byte) : FrameShape.Statement (.ackIncident p payload) :=
  fun h => FrameShape.long h
theorem FrameShape.departTanker (p : Port) (b1 b2 : Byte) : FrameShape.Statement (.departTanker p b1 b2) := fun _ => ⟨rfl, rfl⟩
theorem FrameShape.nextWork (p : Port) (b1 b2 : Byte) : FrameShape.Statement (.nextWork p b1 b2) := fun _ => ⟨rfl, rfl⟩
theorem FrameShape.stepStart (p : Port) (payload : List Byte) : FrameShape.Statement (.stepStart p payload) :=
  fun h => FrameShape.long h
theorem FrameShape.washSample (p : Port) (payload : List Byte) : FrameShape.Statement (.washSample p payload) :=
  fun h => FrameShape.long h
theorem FrameShape.giveBack (p : Port) (payload : List Byte) : FrameShape.Statement (.giveBack p payload) :=
  fun h => FrameShape.long h
theorem FrameShape.undock (p : Port) (b1 b2 : Byte) : FrameShape.Statement (.undock p b1 b2) := fun _ => ⟨rfl, rfl⟩
theorem FrameShape.inspectBegin (p : Port) (payload : List Byte) : FrameShape.Statement (.inspectBegin p payload) :=
  fun h => FrameShape.long h
theorem FrameShape.inspectResult (p : Port) (payload : List Byte) : FrameShape.Statement (.inspectResult p payload) :=
  fun h => FrameShape.long h
theorem FrameShape.inspectCancel (p : Port) (payload : List Byte) : FrameShape.Statement (.inspectCancel p payload) :=
  fun h => FrameShape.long h
theorem FrameShape.fillBegin (p : Port) (payload : List Byte) : FrameShape.Statement (.fillBegin p payload) :=
  fun h => FrameShape.long h
theorem FrameShape.fillVolume (p : Port) (payload : List Byte) : FrameShape.Statement (.fillVolume p payload) :=
  fun h => FrameShape.long h
theorem FrameShape.fillResume (p : Port) (payload : List Byte) : FrameShape.Statement (.fillResume p payload) :=
  fun h => FrameShape.long h
theorem FrameShape.fillEnd (p : Port) (payload : List Byte) : FrameShape.Statement (.fillEnd p payload) :=
  fun h => FrameShape.long h

end Sys2Proof.Laws
end

