-- ==== Sys2Proof/Tests/Slice0.lean ====
section
/-! SUPPORT. Tests of single commands, with the expected results of the manual's own yard (chapter 11) or worked out by hand
from its rules, and for each statement a state and operands that meet its hypotheses. -/

namespace Sys2Proof.Tests

open Sys2Proof Sys2Proof.Machine

set_option Elab.async false

/-! ### The yard of chapter 11 -/

def rinse : WashStep := ⟨.rinse, 200, 100, 320, 600⟩
def steamStep : WashStep := ⟨.steam, 800, 0, 480, 600⟩
def solventStep : WashStep := ⟨.solvent, 200, 100, 320, 600⟩

/-- Row 0 of 11.1: 0 in columns 0, 2 and 6. -/
def rowClean : Vector Nat 16 := #v[0, 6, 0, 6, 6, 6, 0, 6, 6, 6, 6, 6, 6, 6, 6, 6]

/-- Row 4 of 11.1: 3 in column 0, 7 in column 2, 2 in column 6. -/
def rowFour : Vector Nat 16 := #v[3, 6, 7, 6, 6, 6, 2, 6, 6, 6, 6, 6, 6, 6, 6, 6]

def portOf (role : Role) (caps : Caps) : PortRec := { resetPort role with caps := caps }

def inputLine (mode : LineMode) (pol : Polarity) (depth : Nat) (f : Func) (level : Level) : Line :=
  ⟨mode, pol, depth, some f, level, 0, false, none⟩

def outputLine (mode : LineMode) (pol : Polarity) (f : Func) : Line :=
  ⟨mode, pol, 0, some f, .unsettled, 0, false, none⟩

/-- The yard after the start-up of 11.1, without tankers. -/
def office : State :=
  ((((((({ State.reset with
    clock := 200000
    catalogue := [⟨310, 4, false, 3, 97⟩, ⟨2250, 2, true, 0, 98⟩, ⟨4100, 6, false, 0, 96⟩]
    matrix := (resetMatrix.set 0 rowClean).set 4 rowFour
    limits := (resetLimits.set 6 ⟨200, 12⟩).set 2 ⟨50, 12⟩
    programs := #v[[rinse], [rinse, steamStep], [rinse, steamStep, rinse], [], [rinse], [rinse, steamStep, solventStep]]
    ports := ⟨resetPort .office, resetPort .none, portOf .wash ⟨true, false, false⟩, portOf .wash ⟨true, true, true⟩,
      portOf .inspect resetCaps, portOf .fill resetCaps⟩
    lock := true
    armMap := #v[some .F, none, none, none] } : State).setLine 0 (inputLine .inputFiltered .low 4 (.ground 0) .active)
    |>.setLine 1 (inputLine .inputFiltered .high 2 (.overfill 0) .inactive))
    |>.setLine 8 (outputLine .outputPushPull .high (.permit 0)))
    |>.setLine 14 (outputLine .outputOpen .low (.washEnable .C)))
    |>.setLine 15 (outputLine .outputOpen .low (.washEnable .D)))
    |>.setLine 20 (outputLine .outputOpen .low .alarm)))

/-- Tanker 2718 of 11.2. -/
def tanker (docked : Option Port) : Tanker := ⟨2718, 1, 200100, docked⟩

/-- A compartment 2718/1 of 7600 litres that last held product 310. -/
def comp (st : CompState) : Comp := ⟨2718, 1, 7600, some ⟨310, 4⟩, 0, 0, st, none, none, false, false⟩

/-- The yard with that tanker, that compartment and a queue. -/
def yard (docked : Option Port) (c : Comp) (queue : List Entry) : State :=
  ({ office with queue := queue }.setTanker 0 (some (tanker docked))).setComp 0 c

def booking : Booking := ⟨4100, 6, .normal⟩
def entry : Entry := ⟨2718, 1⟩
def plan : Plan := ⟨3, [rinse, steamStep, rinse], 1, 0, 0, 0, 0, true, ⟨true, false, false⟩⟩
def release : Release := ⟨4100, 3, false, 150, 300417, 209500, 43200, false⟩
def fill : Fill := ⟨0, 4100, 7290, 1800⟩
def adr : List Byte := addressBytes 2718 1

/-- A compartment that is being filled, as 11.3 has it. -/
def fillingSt (f : Fill) (h : HaltSet) : CompState := .filling booking plan .F { release with frozen := true } f h

def queued : State := yard none (comp (.queued booking plan)) [entry]
def washing (ph : WashPhase) (pl : Plan) : State := yard (some .C) (comp (.washing booking pl .C ph)) []
def washed : State := yard none (comp (.washed booking plan)) []
def inspecting (faults : Nat) (pl : Plan) : State :=
  yard none { comp (.inspecting booking pl .E) with faults := faults, performed := 3 } []
def released : State := yard none (comp (.released booking plan release)) []
def filling (f : Fill) (h : HaltSet) : State := yard none (comp (fillingSt f h)) []
def arrived : State := yard none (comp .arrived) []

/-- A running step one second, one silence second and one mismatch short of its ends, which owes an advance. -/
def edge : Comp :=
  { comp (.washing booking { plan with active := 599, silence := 59, mismatch := 2 } .C .active) with advanceDue := true }

/-- A port in a receive state, in the yard right after reset. -/
def withRx (p : Port) (rx : Rx) : State := State.reset.setPort p { resetPort .none with rx := rx }

/-- What a test looks at in an outcome. -/
def seen {α : Type} (f : State → α) (o : Host.Outcome State Fault Refusal) : Option α :=
  match o with
  | .next t => some (f t)
  | .fault _ => none
  | .refused _ => none

/-- The payload of the reply a port is sending. -/
def sent (p : Port) (s : State) : List Byte :=
  match (s.port p).rx with
  | .replying r => r.payload
  | .idle => []
  | .header _ => []
  | .payload _ => []
  | .discard _ => []

/-- The first three bytes of a reply's payload and what follows. -/
def reply (p : Port) (i : Instr) (s : State) : Option (List Byte) := seen (sent p) (exec i s)

/-- The record in slot 0 after a command. -/
def record (i : Instr) (s : State) : Option (Option Comp) := seen (fun t => t.compAt 0) (exec i s)

/-! ### Well-formedness (R174) -/

theorem test_empty_payload_refused : (Instr.book .A []).wf = false := by decide
theorem test_one_byte_payload_accepted : (Instr.book .A [0]).wf = true := by decide
theorem test_longest_payload_accepted : (Instr.setTime .A (List.replicate 240 0)).wf = true := by decide +kernel
theorem test_too_long_payload_refused : (Instr.setTime .A (List.replicate 241 0)).wf = false := by decide +kernel
theorem test_short_request_accepted : (Instr.readStatus .A 7 9).wf = true := by decide

/-! ### Frames and checks (R174, R175, R183), by the check values R175 gives -/

theorem test_crc8_check_value : crc8 [0x31, 0x32, 0x33, 0x34, 0x35, 0x36, 0x37, 0x38, 0x39] = 0xF4 := by decide +kernel
theorem test_crc16_check_value : crc16 [0x31, 0x32, 0x33, 0x34, 0x35, 0x36, 0x37, 0x38, 0x39] = 0x29B1 := by
  decide +kernel
theorem test_read_status_frame : (Instr.readStatus .A 0 0).frame = [0x01, 0x00, 0x00, 0x6B] := by decide +kernel
theorem test_word_spells_no_command : decodeTableWord 8 1 = none := rfl

/-! ### Events -/

theorem test_reset_empties_the_yard : seen (fun t => (t.tankerAt 0, t.queue, t.lock, t.clock))
    (exec .hardwareReset queued) = some (none, [], false, 0) := by decide +kernel

theorem test_advance_wraps : seen (·.clock) (exec .yardClockAdvance { State.reset with clock := 0xFFFFFFFF })
    = some 0 := by decide +kernel

/-- R102: an unfrozen release loses a second. -/
theorem test_advance_lowers_a_release : record .yardClockAdvance released
    = some (some (comp (.released booking plan { release with remaining := 43199 }))) := by decide +kernel

/-- R81: at 60 silence seconds. -/
theorem test_silence_expiry : record (.silenceExpiry 0)
    (yard (some .C) { comp (.washing booking { plan with silence := 59, active := 70 } .C .active) with advanceDue := true } [])
    = some (some (comp (.washing booking { plan with silence := 60, active := 71 } .C (.stalled .silence)))) := by
  decide +kernel

/-- R83: the third fault blocks, with a BLOCKED incident of the bay. -/
theorem test_active_time_expiry : record (.activeTimeExpiry 0)
    (yard (some .C) { comp (.washing booking { plan with active := 599 } .C .active) with
      advanceDue := true, faults := 2 } [])
    = some (some { comp (.blockedFaults booking (some { plan with active := 600 })) with
        faults := 3, incident := some ⟨.blocked, 0, some .C, 0⟩ }) := by decide +kernel

/-- R103. -/
theorem test_release_expiry : record (.releaseExpiry 0)
    (yard none { comp (.released booking plan { release with remaining := 1 }) with advanceDue := true } [])
    = some (some { comp (.washed booking plan) with incident := some ⟨.releaseExpired, 0, none, 0⟩ }) := by decide +kernel

/-- R143: the first sample seeds a LOW line without an event. -/
theorem test_sample_seeds : seen (fun t => (t.line 0).level)
    (exec (.inputSample 0 false) (office.setLine 0 (inputLine .inputFiltered .low 4 (.ground 0) .unsettled)))
    = some .active := by decide +kernel

/-- 11.3 step 3: the clamp loss at the fourth sample halts the fill, captures the incident and lowers PERMIT. -/
theorem test_ground_loss_halts : seen (fun t => (t.compAt 0, (t.line 8).latch, (t.line 20).latch))
    (exec (.inputSample 0 true) ((filling fill noHalts).setLine 0
      { inputLine .inputFiltered .low 4 (.ground 0) .active with run := 3 }))
    = some (some { comp (fillingSt fill ⟨false, true, false⟩) with incident := some ⟨.groundLost, 200000, some .F, 1⟩ },
        false, true) := by decide +kernel

/-- R94: 640 with the calibration after reset is 640 µS/cm. -/
theorem test_conversion : seen (fun t => (t.probe .E, (t.line 16).raw))
    (exec (.analogConversion 16 640) ((office.setLine 16 ⟨.analog, .high, 0, some (.rinseProbe .E), .unsettled, 0, false,
      none⟩).setProbe .E (some ⟨none, true⟩))) = some (some ⟨some ⟨640, 640⟩, false⟩, some 640) := by decide +kernel

/-- R176: the fourth byte of a READ STATUS frame carries the request out. -/
theorem test_last_byte_carries_out : reply .A (.byteReceived .A 0x6B) (withRx .A (.header [0x01, 0, 0]))
    = reply .A (.readStatus .A 0 0) State.reset := by decide +kernel

theorem test_wrong_header_check : seen (fun t => ((t.port .B).rx, (t.port .B).flags.header))
    (exec (.byteReceived .B 0x6A) (withRx .B (.header [0x01, 0, 0]))) = some (.discard none, true) := by decide +kernel

theorem test_break : seen (fun t => ((t.port .B).rx, (t.port .B).flags.brk))
    (exec (.breakReceived .B) (withRx .B (.header [1]))) = some (.discard none, true) := by decide +kernel

theorem test_gap : seen (fun t => ((t.port .B).rx, (t.port .B).flags.gap))
    (exec (.gap .B) (withRx .B (.header [1]))) = some (.idle, true) := by decide +kernel

/-- R179: a LENGTH fault's LINK reply, three payload bytes. -/
theorem test_discard_end : reply .B (.discardEnd .B) (withRx .B (.discard (some 0xA1))) = some [0x40, 0, 0] := by
  decide +kernel

theorem test_reply_sent : seen (fun t => (t.port .B).rx)
    (exec (.replySent .B) (withRx .B (.replying ⟨0x81, [0, 0, 0]⟩))) = some .idle := by decide +kernel

/-! ### Reads -/

/-- 11.1 step 1: role OFFICE, no tanker, lock clear; 25 payload bytes (R186). -/
theorem test_read_status : reply .A (.readStatus .A 0 0) { State.reset with clock := 7 }
    = some ([0, 0, 0, 0x41, 1, 0, 128, 0, 0, 0, 7, 0] ++ List.replicate 12 0) := by decide +kernel

/-- 11.1 step 14: a 76-byte payload; line 0 is INPUT_FILTERED, LOW, depth 4, GROUND arm 1, ACTIVE. -/
theorem test_read_lines : (reply .A (.readLines .A 0 0) office).map (fun b => (b.length, b.drop 3 |>.take 4))
    = some (76, [1, 2 + 8 + 32, 0x11, 1]) := by decide +kernel

theorem test_reply_limit_held_at_96 : reply .B (.setReplyLimit .B 0 10) State.reset = some [0, 0, 0, 96] := by
  decide +kernel

/-- R22, R186: an ARRIVED record is its fixed part and eight empty markers. -/
theorem test_read_compartment : reply .A (.readCompartment .A adr) arrived
    = some ([0, 0, 0, 0x0A, 0x9E, 1, 0, 0x1D, 0xB0, 0, 3, 0x0D, 0xA4, 0, 1, 0, 1, 1, 0x36, 4, 0, 0, 0]
        ++ [0, 0, 0, 0, 0, 0, 0]) := by decide +kernel

/-- R170: one summary, and the walk ran off the table. -/
theorem test_read_records : reply .A (.readRecords .A (argBytes [(1, 0), (1, 5), (1, 0)])) queued
    = some [0, 0, 0, 2, 0, 4, 1, 1, 0, 0x0A, 0x9E, 1, 2, 0, 0, 0x10, 0x04, 2, 0, 0] := by decide +kernel

/-- R63: one entry, NORMAL, level 3, needs STEAM, not docked. -/
theorem test_read_queue : reply .A (.readQueue .A 0 1) queued
    = some [0, 0, 0, 1, 1, 0x0A, 0x9E, 1, 0x23, 1, 0] := by decide +kernel

/-! ### The office's tables -/

/-- 11.1 step 2: the old value is 7. -/
theorem test_set_time : (reply .A (.setTime .A (beBytes 4 200000)) { State.reset with clock := 7 })
    = some [0, 0, 0, 0, 0, 0, 7] := by decide +kernel

/-- 11.1 step 4: one entry. -/
theorem test_define_product : reply .A (.defineProduct .A (argBytes [(2, 310), (1, 4), (1, 0), (1, 3), (1, 97)]))
    State.reset = some [0, 0, 0, 1] := by decide +kernel

/-- R25, R27: a last product is referenced. -/
theorem test_delete_referenced : reply .A (.deleteProduct .A 0x01 0x36) arrived = some [0x4C, 0, 0] := by decide +kernel
theorem test_delete_product : reply .A (.deleteProduct .A 0x08 0xCA) office = some [0, 0, 0, 2] := by decide +kernel

theorem test_set_matrix_row : seen (fun t => t.matrix)
    (exec (.setMatrixRow .A (argBytes ((1, 4) :: rowFour.toList.map fun v => (1, v)))) State.reset)
    = some (resetMatrix.set 4 rowFour) := by decide +kernel

theorem test_define_program : seen (fun t => t.program 2)
    (exec (.defineProgram .A (argBytes [(1, 2), (1, 1)] ++ stepArgs solventStep)) office) = some [solventStep] := by
  decide +kernel

theorem test_set_class_limit : seen (fun t => t.classLimit 6)
    (exec (.setClassLimit .A (argBytes [(1, 6), (2, 200), (1, 12)])) State.reset) = some ⟨200, 12⟩ := by decide +kernel

/-- 11.1 step 8: the old role is NONE. -/
theorem test_set_port_role : reply .A (.setPortRole .A (argBytes [(1, 0x43), (1, 2), (1, 1)])) State.reset
    = some [0, 0, 0, 2, 1, 0] := by decide +kernel

/-- R162: byte 4 holds codes 32 to 39; bit 1 is BOOK. -/
theorem test_set_access_map : seen (fun t => (t.port .C).denied)
    (exec (.setAccessMap .A (0x43 :: [0, 0, 0, 0, 2, 0, 0, 0, 0, 0, 0, 0, 0, 0, 0, 0x80])) State.reset)
    = some [.book] := by decide +kernel

/-- 11.1 step 9, and R152: the lock refuses it. -/
theorem test_configure_line : reply .A (.configureLine .A (argBytes [(1, 0), (1, 2), (1, 1), (1, 4), (1, 1), (1, 1)]))
    State.reset = some [0, 0, 0, 2 + 8 + 32, 0x11, 0, 0, 0] := by decide +kernel
theorem test_configure_locked : reply .A (.configureLine .A (argBytes [(1, 20), (1, 4), (1, 1), (1, 0), (1, 5), (1, 0)]))
    office = some [0x55, 0, 0] := by decide +kernel

/-- 11.1 step 15: the lock was clear. -/
theorem test_lock_lines : reply .A (.lockLines .A 0 0) State.reset = some [0, 0, 0, 0] := by decide +kernel

/-- R150: a bound line is IN_USE with its function code. -/
theorem test_set_line_bound : reply .A (.setLine .A 8 1) office = some [0x56, 0, 3] := by decide +kernel
theorem test_set_line : seen (fun t => (t.line 9).latch)
    (exec (.setLine .A 9 1) (office.setLine 9 { resetLine with mode := .outputPushPull })) = some true := by decide +kernel

theorem test_set_probe_calibration : reply .A (.setProbeCalibration .A [0, 64, 0xFF, 0xFF]) State.reset
    = some [0, 0, 0, 0, 64, 0xFF, 0xFF, 0] := by decide +kernel

/-- 11.1 step 16: mapped to F, equipped. -/
theorem test_map_arm : reply .A (.mapArm .A 1 0x46) office = some [0, 0, 0, 0x46, 1] := by decide +kernel

theorem test_clear_yard : seen (fun t => (t.tankerAt 0, t.compAt 0, t.queue, t.lock))
    (exec (.clearYard .A 0 0) queued) = some (none, none, [], true) := by decide +kernel

/-! ### The office's records -/

/-- 11.2: tanker 2718 takes slot 0. -/
theorem test_register_tanker : reply .A (.registerTanker .A
    (argBytes [(2, 2718), (1, 3), (2, 7600), (2, 310), (2, 5200), (2, 0), (2, 6000), (2, 310)])) office
    = some [0, 0, 0, 0] := by decide +kernel
theorem test_register_unknown_product : reply .A (.registerTanker .A
    (argBytes [(2, 2718), (1, 2), (2, 7600), (2, 310), (2, 5200), (2, 311)])) office = some [0x4A, 0, 2] := by
  decide +kernel

/-- 11.2: 2718/1 for 4100 is QUEUED at level 3, NEW; for 2250 it is BLOCKED, level 7, NONE. -/
theorem test_book_queues : reply .A (.book .A (adr ++ argBytes [(2, 4100), (1, 2)])) arrived
    = some [0, 0, 0, 2, 3, 1] := by decide +kernel
theorem test_book_forbidden : reply .A (.book .A (adr ++ argBytes [(2, 2250), (1, 2)])) arrived
    = some [0, 0, 0, 9, 7, 0] := by decide +kernel

/-- R21: a FILLING compartment becomes LOADED, partial. -/
theorem test_revoke_filling : record (.revoke .A adr) (filling fill noHalts)
    = some (some { comp (.loaded ⟨1800, true⟩) with
        last := some ⟨4100, 6⟩, incident := some ⟨.fillRevoked, 200000, some .F, 1⟩ }) := by decide +kernel
theorem test_revoke_washing : seen (fun t => (t.compAt 0, t.queue))
    (exec (.revoke .A adr) (washing .active { plan with dose := 100, silence := 5 }))
    = some (some (comp (.queued booking { plan with dose := 100 })), [entry]) := by decide +kernel

/-- R46. -/
theorem test_unblock : record (.unblock .A adr) (yard none { comp (.blockedFaults booking none) with faults := 3 } [])
    = some (some (comp (.queued booking plan))) := by decide +kernel

/-- 11.3 step 6: kind 1, port 0x46, detail 1, no overflow. -/
theorem test_ack_incident : reply .A (.ackIncident .A adr)
    (yard none { comp .arrived with incident := some ⟨.groundLost, 212300, some .F, 1⟩ } [])
    = some [0, 0, 0, 1, 0, 3, 0x3D, 0x4C, 0x46, 1, 0] := by decide +kernel

theorem test_depart_tanker : seen (fun t => (t.tankerAt 0, t.compAt 0, t.queue))
    (exec (.departTanker .A 0x0A 0x9E) queued) = some (none, none, []) := by decide +kernel
theorem test_depart_held : reply .A (.departTanker .A 0x0A 0x9E) (washing .between plan) = some [0x46, 0, 1] := by
  decide +kernel

/-! ### A bay's work -/

/-- 11.2: C is handed 2718/1 and its tanker is docked to C. -/
theorem test_next_work : seen (fun t => (t.compAt 0, t.tankerAt 0, t.queue)) (exec (.nextWork .C 0 0) queued)
    = some (some (comp (.washing booking plan .C .between)), some (tanker (some .C)), []) := by decide +kernel
theorem test_next_work_empty : reply .C (.nextWork .C 0 0) arrived = some [3, 0, 0, 0, 0] := by decide +kernel

theorem test_step_start : reply .C (.stepStart .C (adr ++ [1])) (washing .between { plan with dose := 100, active := 20 })
    = some ([0, 0, 0] ++ argBytes [(1, 1), (1, 1), (2, 320), (2, 100), (2, 20), (2, 580), (1, 0)]) := by decide +kernel

/-- R73, R74: 90.0 °C is 70.0 above T_min, so the weight is 128 and 2 seconds earn 256. R85, R80: taken before the advance
that would have stalled the step, whose active and silence second follow. -/
theorem test_wash_sample : seen (fun t => (sent .C t, t.compAt 0))
    (exec (.washSample .C (adr ++ argBytes [(1, 2), (2, 900), (2, 100), (1, 1)])) (yard (some .C)
      { comp (.washing booking { plan with silence := 59, active := 70 } .C .active) with advanceDue := true } []))
    = some ([0, 0, 0] ++ argBytes [(1, 0), (1, 128), (2, 256), (2, 256), (1, 0), (1, 3), (1, 2), (1, 1)],
        some (comp (.washing booking { plan with dose := 256, silence := 1, active := 71 } .C .active))) := by
  decide +kernel
/-- R72: the third sample of the wrong medium stalls the step. -/
theorem test_wash_sample_wrong_medium : record (.washSample .C (adr ++ argBytes [(1, 2), (2, 900), (2, 100), (1, 2)]))
    (washing .active { plan with mismatch := 2 })
    = some (some (comp (.washing booking { plan with mismatch := 3 } .C (.stalled .medium)))) := by decide +kernel

theorem test_give_back : reply .C (.giveBack .C adr) (washing .active plan) = some [0, 0, 0, 2, 1] := by decide +kernel
theorem test_undock : reply .C (.undock .C 0 0) (yard (some .C) (comp .arrived) []) = some [0, 0, 0, 0x0A, 0x9E] := by
  decide +kernel

/-! ### The inspection station -/

theorem test_inspect_begin : reply .E (.inspectBegin .E adr) washed
    = some ([0, 0, 0] ++ argBytes [(2, 4100), (1, 6), (2, 200), (1, 12), (1, 0), (1, 1), (1, 0)]) := by decide +kernel

/-- 11.2: a conductivity of 240 fails against 200: queued again, fault count 1, position 1. -/
theorem test_inspect_result_fails : reply .E (.inspectResult .E (adr ++ argBytes [(1, 1), (2, 240), (3, 300409)]))
    (inspecting 0 plan) = some ([0, 0, 0] ++ argBytes [(1, 2), (1, 0), (2, 240), (1, 1), (2, 200), (1, 2), (1, 1),
      (1, 1)]) := by decide +kernel
/-- R97: a conductivity at the limit passes. -/
theorem test_inspect_result_passes : record (.inspectResult .E (adr ++ argBytes [(1, 1), (2, 200), (3, 300417)]))
    (inspecting 1 plan) = some (some { comp (.released booking plan ⟨4100, 3, true, 200, 300417, 200000, 43200, false⟩)
      with faults := 1, performed := 3, reading := some ⟨200, .reported⟩ }) := by decide +kernel

theorem test_inspect_cancel : reply .E (.inspectCancel .E adr) (inspecting 0 plan) = some [0, 0, 0, 4] := by decide +kernel

/-! ### The fill rack -/

/-- 11.2: the limit of 7600 litres at 96 % is 7290. -/
theorem test_fill_begin : reply .F (.fillBegin .F (adr ++ argBytes [(1, 1), (2, 4100), (3, 300417)])) released
    = some ([0, 0, 0] ++ argBytes [(1, 1), (2, 4100), (2, 7290), (2, 0), (3, 43200)]) := by decide +kernel
/-- R113: another closure tag removes the release; ATTENTION is set in the reply. -/
theorem test_fill_begin_wrong_tag : reply .F (.fillBegin .F (adr ++ argBytes [(1, 1), (2, 4100), (3, 300422)])) released
    = some [0x52, 0x80, 0] := by decide +kernel

/-- 11.2: 4000 leaves 3290; 7290 reaches the limit. -/
theorem test_fill_volume : reply .F (.fillVolume .F (adr ++ argBytes [(4, 4000)])) (filling fill noHalts)
    = some ([0, 0, 0] ++ argBytes [(1, 0), (2, 4000), (2, 7290), (2, 3290), (1, 0x10)]) := by decide +kernel
theorem test_fill_volume_limit : reply .F (.fillVolume .F (adr ++ argBytes [(4, 7290)])) (filling fill noHalts)
    = some ([2, 0, 0] ++ argBytes [(1, 0), (2, 7290), (2, 7290), (2, 0), (1, 0x21)]) := by decide +kernel

/-- 11.3 step 5: UNBONDED, detail 1, holding {GROUND}. -/
theorem test_fill_resume_unbonded : reply .F (.fillResume .F adr) ((filling fill ⟨false, true, false⟩).setLine 0
    (inputLine .inputFiltered .low 4 (.ground 0) .inactive)) = some [0x53, 0, 1, 2] := by decide +kernel
theorem test_fill_resume : reply .F (.fillResume .F adr) (filling fill ⟨false, true, false⟩)
    = some ([0, 0, 0] ++ argBytes [(2, 1800), (2, 5490)]) := by decide +kernel

/-- 11.2: 7290 loaded, no OVER_LIMIT. -/
theorem test_fill_end : reply .F (.fillEnd .F (adr ++ argBytes [(4, 7290)])) (filling fill noHalts)
    = some ([0, 0, 0] ++ argBytes [(1, 0), (1, 8), (2, 7290), (2, 7290), (1, 0)]) := by decide +kernel
theorem test_fill_end_over_limit : record (.fillEnd .F (adr ++ argBytes [(4, 70000)])) (filling fill noHalts)
    = some (some { comp (.loaded ⟨65535, false⟩) with
        last := some ⟨4100, 6⟩, incident := some ⟨.overLimit, 200000, some .F, 1⟩ }) := by decide +kernel

/-! ### What the yard of the tests is -/

theorem office_tankerAt (t : TankerSlot) : office.tankerAt t = none := by
  simp [office, State.tankerAt, State.setLine, State.reset, resetTankers]

theorem office_compAt (k : Slot) : office.compAt k = none := by
  simp [office, State.compAt, State.setLine, State.reset, resetComps]

theorem yard_compAt (d : Option Port) (c : Comp) (q : List Entry) (k : Slot) :
    (yard d c q).compAt k = if k = 0 then some c else none := by
  rw [yard, State.compAt_setComp]
  split
  · rfl
  · exact office_compAt k

theorem yard_tankerAt (d : Option Port) (c : Comp) (q : List Entry) (t : TankerSlot) :
    (yard d c q).tankerAt t = if t = 0 then some (tanker d) else none := by
  rw [yard, State.setComp_tankerAt, State.tankerAt_setTanker]
  split
  · rfl
  · exact office_tankerAt t

theorem yard_comp {d : Option Port} {c x : Comp} {q : List Entry} {k : Slot} (h : (yard d c q).compAt k = some x) :
    k = 0 ∧ x = c := by
  rw [yard_compAt] at h
  split_ifs at h with hk
  exact ⟨hk, (Option.some.inj h).symm⟩

theorem yard_tanker {d : Option Port} {c : Comp} {q : List Entry} {t : TankerSlot} {k : Tanker}
    (h : (yard d c q).tankerAt t = some k) : t = 0 ∧ k = tanker d := by
  rw [yard_tankerAt] at h
  split_ifs at h with ht
  exact ⟨ht, (Option.some.inj h).symm⟩

theorem compSlot_zero (t : TankerSlot) (j : Fin 6) : compSlot t (j.val + 1) = 0 ↔ t = 0 ∧ j = 0 := by
  revert t j
  decide +kernel

theorem yard_tables (d : Option Port) {c : Comp} (q : List Entry) (ht : c.tag = 2718) (hi : c.index = 1) :
    (yard d c q).tablesAgree := by
  refine ⟨fun t h j => ?_, fun t k h => ?_, fun t u k l h1 h2 _ => ?_⟩
  · rw [yard_tankerAt] at h
    rw [yard_compAt, if_neg]
    rw [compSlot_zero]
    rintro ⟨rfl, -⟩
    simp at h
  · obtain ⟨rfl, rfl⟩ := yard_tanker h
    refine ⟨by simp [tanker], by simp [tanker], fun j => ⟨fun hj => ?_, fun hj => ?_⟩⟩
    · have : j = 0 := by simp [tanker] at hj; omega
      subst this
      exact ⟨c, by rw [yard_compAt, if_pos (by decide)], ht, hi⟩
    · rw [yard_compAt, if_neg]
      rw [compSlot_zero]
      rintro ⟨-, rfl⟩
      simp [tanker] at hj
  · exact (yard_tanker h1).1.trans (yard_tanker h2).1.symm

theorem yard_dockings (d : Option Port) (c : Comp) (q : List Entry)
    (h : ∀ b pl p ph, c.st = .washing b pl p ph → d = some p) : (yard d c q).dockingsAgree := by
  refine ⟨fun t u k l p h1 h2 _ _ => (yard_tanker h1).1.trans (yard_tanker h2).1.symm, fun t j x b pl p ph hx hst => ?_⟩
  obtain ⟨hk, rfl⟩ := yard_comp hx
  obtain ⟨rfl, -⟩ := (compSlot_zero t j).1 hk
  exact ⟨tanker d, by rw [yard_tankerAt, if_pos rfl], h b pl p ph hst⟩

theorem yard_oneFill (d : Option Port) (c : Comp) (q : List Entry) : (yard d c q).oneFillEach :=
  fun _ _ _ _ _ _ _ _ h1 h2 _ _ _ => (yard_comp h1).1.trans (yard_comp h2).1.symm

theorem office_func (l m : LineNo) : (office.line l).func ≠ none → (office.line l).func = (office.line m).func → l = m := by
  revert l m
  decide +kernel

theorem office_no_probe (l : LineNo) (p : Port) : (office.line l).func ≠ some (.rinseProbe p) := by
  revert l
  cases p <;> decide +kernel

theorem yard_bindings (d : Option Port) (c : Comp) (q : List Entry) : (yard d c q).bindingsAgree := by
  refine ⟨fun l m f h1 h2 => ?_, fun p => ⟨fun h => ?_, fun ⟨l, h⟩ => absurd h (office_no_probe l p)⟩⟩
  · exact office_func l m (fun h => Option.some_ne_none f (h1.symm.trans h)) (h1.trans h2.symm)
  · cases p <;> cases h

theorem office_bindings : office.bindingsAgree := yard_bindings none (comp .arrived) []

theorem yard_admits (d : Option Port) (c : Comp) (q : List Entry) {p : Port} {r : ReqName}
    (h : permitted r (office.role p) = true) : (yard d c q).admits p r :=
  ⟨h, by cases p <;> rfl⟩

theorem office_admits {p : Port} {r : ReqName} (h : permitted r (office.role p) = true) : office.admits p r :=
  ⟨h, by cases p <;> rfl⟩

/-- The tanker and the compartment of the test yard, as they are found. -/
def found (d : Option Port) (c : Comp) : Found := ⟨0, tanker d, 0, c⟩

theorem yard_find (d : Option Port) (c : Comp) (q : List Entry) (ht : c.tag = 2718) (hi : c.index = 1) :
    (yard d c q).find 2718 1 = some (found d c) := by
  have h := State.findTanker_of_tag (yard_tables d q ht hi) (tag := 2718) (t := 0) (k := tanker d)
    (by rw [yard_tankerAt, if_pos rfl]) rfl
  rw [State.find, h]
  dsimp only
  rw [if_pos ⟨le_refl 1, le_refl 1⟩, show compSlot 0 1 = 0 from by decide, yard_compAt, if_pos rfl]
  rfl

theorem yard_names (d : Option Port) {c : Comp} (q : List Entry) (ht : c.tag = 2718) (hi : c.index = 1) :
    (yard d c q).names 2718 1 (found d c) :=
  ⟨by decide, by decide, yard_find d c q ht hi⟩

/-- The line facts of the office yard: which line an instance is bound to, and what the demands and lines look like. -/
theorem office_line_unbound (f : Func) (h : ∀ l ∈ List.finRange 24, (office.line l).func ≠ some f) (l : LineNo) :
    (office.line l).func ≠ some f := h l (List.mem_finRange l)

theorem yard_queueAgrees {d : Option Port} {c : Comp} (ht : c.tag = 2718) (hi : c.index = 1)
    (hq : ∀ b pl, c.st ≠ .queued b pl) : (yard d c []).queueAgrees := by
  refine ⟨by simp [yard, State.setTanker, State.setComp], fun k x hx => ?_, fun e he => ?_⟩
  · obtain ⟨-, rfl⟩ := yard_comp hx
    constructor
    · intro h
      simp [yard, State.setTanker, State.setComp] at h
    · rintro ⟨b, pl, h⟩
      exact absurd h (hq b pl)
  · simp [yard, State.setTanker, State.setComp] at he

/-! ### Witnesses: the machine, the frames, the chain -/

theorem witness_EveryRequestIsAnswered :
    (Instr.readStatus .A 0 0).request? = some (.readStatus, .A, [0, 0]) ∧
    (Instr.book .B []).request? = some (.book, .B, []) := ⟨rfl, rfl⟩

theorem witness_ReplyFitsLimit :
    (Instr.readQueue .A 0 1).request? = some (.readQueue, .A, [0, 1]) ∧ queued.portsAgree ∧
    ∀ (k : Slot) (c : Comp) (pl : Plan), queued.compAt k = some c → c.st.plan = some pl → pl.steps.length ≤ 6 := by
  refine ⟨rfl, fun p => ?_, fun k c pl h h' => ?_⟩
  · cases p <;> exact ⟨by decide +kernel, fun _ h => (by cases h), fun _ h => (by cases h), by decide +kernel⟩
  · obtain ⟨-, rfl⟩ := yard_comp h
    cases h'
    decide

theorem witness_RefusedRequestChangesNothing : ∃ t : State,
    (Instr.setTime .B []).request? = some (.setTime, .B, []) ∧ exec (.setTime .B []) State.reset = .next t ∧
    (t.port .B).rx = .replying ⟨0x90, [0x41, 0, 0]⟩ ∧ 0x41 ≤ (0x41#8).toNat ∧ (0x41#8).toNat ≠ 0x52 :=
  ⟨_, rfl, rfl, by decide +kernel, by decide, by decide⟩

/-- The shortest and the longest frame. -/
theorem witness_FrameCarriesRequest :
    (Instr.readStatus .B 0 0).request? = some (.readStatus, .B, [0, 0]) ∧ (Instr.readStatus .B 0 0).wf = true ∧
    (Instr.setTime .A [0]).wf = true ∧ (Instr.setTime .A (List.replicate 240 0)).wf = true ∧
    ∀ p, (State.reset.port p).rx = .idle :=
  ⟨rfl, rfl, by decide, by decide +kernel, fun p => by cases p <;> rfl⟩

theorem withRx_rx (p : Port) (rx : Rx) : ((withRx p rx).port p).rx = rx := by
  rw [withRx, State.port_setPort_self]

/-- Every receive state of the statement: a payload of one byte as it grows, with lengths 0, 1, 240 and 241, a wrong and a right check, and the codes 0x7F
(unknown), 0x01 (a short form) and 0x21 (a long form). -/
theorem witness_ByteReceivedByState :
    (∀ p rx, ((withRx p rx).port p).rx = rx) ∧ [0x01#8].length < 3 ∧ [0x01#8, 0].length < 3 ∧
    0x00#8 ≠ crc8 [0x01, 0, 0] ∧ (0xA1#8).msb = true ∧
    256 * (0x00#8).toNat + (0x00#8).toNat = 0 ∧ 240 < 256 * (0x00#8).toNat + (0xF1#8).toNat ∧
    (1 ≤ 256 * (0x00#8).toNat + (0x01#8).toNat ∧ 256 * (0x00#8).toNat + (0xF0#8).toNat ≤ 240) ∧
    (([] : List Byte).length + 1 < 256 * (0x00#8).toNat + (0x01#8).toNat + 2 ∧
      [0x07#8].length + 1 < 256 * (0x00#8).toNat + (0x01#8).toNat + 2 ∧
      ¬ [0x07#8, 0].length + 1 < 256 * (0x00#8).toNat + (0x01#8).toNat + 2) ∧
    [0x07#8].length = 256 * (0x00#8).toNat + (0x01#8).toNat ∧
    [0x00#8, 0x00#8] ≠ beBytes 2 (crc16 [0x07]).toNat ∧
    (∃ c1 c2, [c1, c2] = beBytes 2 (crc16 [0x07]).toNat) ∧
    ReqName.ofCode ((0xFF#8).toNat % 128) = none ∧ ReqName.ofCode ((0x81#8).toNat % 128) = some .readStatus ∧
    ReqName.readStatus.isShort = true ∧ (0x21#8).msb = false ∧ ReqName.ofCode (0x21#8).toNat = some .book ∧
    ReqName.book.isShort = false :=
  ⟨withRx_rx, by decide, by decide, by decide +kernel, by decide, by decide, by decide, by decide,
    ⟨by decide, by decide, by decide⟩, by decide, by decide +kernel, ⟨_, _, rfl⟩, by decide, by decide, rfl, by decide, by decide, rfl⟩

theorem witness_LinkEventsByState :
    ((withRx .B .idle).port .B).rx = .idle ∧ ((withRx .B (.header [1])).port .B).rx = .header [1] ∧
    ((withRx .B (.payload [0xA1, 0, 1, 0])).port .B).rx = .payload [0xA1, 0, 1, 0] ∧
    ((withRx .B (.discard none)).port .B).rx = .discard none ∧
    ((withRx .B (.discard (some 0xA1))).port .B).rx = .discard (some 0xA1) ∧
    ((withRx .B (.replying ⟨0x81, [0, 0, 0]⟩)).port .B).rx = .replying ⟨0x81, [0, 0, 0]⟩ :=
  ⟨withRx_rx _ _, withRx_rx _ _, withRx_rx _ _, withRx_rx _ _, withRx_rx _ _, withRx_rx _ _⟩

/-- Arguments, each with its value: every value in its range. -/
theorem inRange_of {fs : List ArgRange} {vs : List Nat} (hl : vs.length ≤ fs.length)
    (h : ∀ x ∈ fs.zip vs, ∃ y ∈ x.1.allowed, y.1 ≤ x.2 ∧ x.2 ≤ y.2) : argsInRange fs vs := by
  intro n v hv
  have hn : n < vs.length := (List.getElem?_eq_some_iff.1 hv).1
  have hf : fs[n]? = some fs[n] := List.getElem?_eq_getElem (Nat.lt_of_lt_of_le hn hl)
  exact ⟨fs[n], hf, h (fs[n], v) (List.mem_of_getElem? (i := n) (by simp [List.getElem?_zip_eq_some, hf, hv]))⟩

/-- DEFINE PROGRAM after its level and step count, after one argument less, and whole, with two steps: the sixth step argument
short by a byte, the payload length wrong. CONFIGURE LINE with an instance that its function does not take. -/
theorem witness_checksArguments :
    argsInRange [.of 1 1 6, .of 1 1 6] [6, 1] ∧
    (ReqName.ranges .defineProgram [6, 1] = some ([.of 1 1 6, .of 1 1 6] ++ ArgRange.step) ∧
      argsInRange ([.of 1 1 6, .of 1 1 6] ++ ArgRange.step) [6, 1] ∧
      argsInRange ([.of 1 1 6, .of 1 1 6] ++ ArgRange.step) [6, 1, 1, 1400, 600, 60000, 7200] ∧
      ([.of 1 1 6, .of 1 1 6] ++ ArgRange.step)[2]? = some (.of 1 1 6) ∧ ¬ (ArgRange.of 1 1 6).admits 7 ∧
      (argPayload ([.of 1 1 6, .of 1 1 6] ++ ArgRange.step) [6, 1] ++ (7#8 :: List.replicate 8 0)).length = 2 + 9 * 1 ∧
      (List.replicate 8 (0 : Byte)).length ≠ 9 * 1) ∧
    (ReqName.ranges .configureLine [23, 5, 1, 0, 6] =
        some [.of 1 0 23, .of 1 1 5, .of 1 0 1, ⟨1, [(0, 0), (2, 2), (4, 4), (8, 8)]⟩, .of 1 0 6, .stationPort] ∧
      argsInRange [.of 1 0 23, .of 1 1 5, .of 1 0 1, ⟨1, [(0, 0), (2, 2), (4, 4), (8, 8)]⟩, .of 1 0 6, .stationPort]
        [23, 5, 1, 0, 6] ∧ ¬ ArgRange.stationPort.admits 0x47 ∧ ([] : List Byte).length < ArgRange.stationPort.size) ∧
    (ReqName.ranges .book [] = some [.of 2 1 65535, .of 1 1 6, .of 2 0 9999, .of 1 1 2] ∧
      argsInRange [.of 2 1 65535, .of 1 1 6, .of 2 0 9999, .of 1 1 2] [2718, 1] ∧
      argsInRange [.of 2 1 65535, .of 1 1 6, .of 2 0 9999, .of 1 1 2] [2718, 1, 9999, 2] ∧
      ¬ (ArgRange.of 2 0 9999).admits 10000) := by
  refine ⟨inRange_of (by decide) (by decide), ⟨rfl, inRange_of (by decide) (by decide), inRange_of (by decide) (by decide),
    rfl, ?_, by decide, by decide⟩, ⟨rfl, inRange_of (by decide) (by decide), ?_, by decide⟩,
    ⟨rfl, inRange_of (by decide) (by decide), inRange_of (by decide) (by decide), ?_⟩⟩ <;>
  simp [ArgRange.admits, ArgRange.of, ArgRange.stationPort]

/-- A port whose map denies BOOK, on a port of the office's kind of role: READ QUEUE of a WASH port. A request without an
address that its port may issue; REGISTER TANKER payloads at each edge of its check 3. -/
theorem witness_FirstThreeChecks :
    (Instr.setTime .B []).request? = some (.setTime, .B, []) ∧ permitted .setTime (State.reset.role .B) = false ∧
    (Instr.readQueue .C 0 1).request? = some (.readQueue, .C, [0, 1]) ∧ permitted .readQueue (office.role .C) = true ∧
    Port.C ≠ .A ∧
    ReqName.readQueue ∈ ((office.setPort .C { office.port .C with denied := [.readQueue] }).port .C).denied ∧
    checkLong [field 1 0 5] [] = .error 1 ∧ checkLong [field 1 0 5] [6] = .error 1 ∧
    checkLong [field 1 0 5] [5, 0] = .error 2 ∧
    (ReqName.addressed .defineProgram = false ∧ ReqName.addressed .configureLine = false ∧
      office.admits .A .defineProgram ∧ office.admits .A .configureLine ∧ office.admits .A .registerTanker) ∧
    ([0x00#8, 1].length ≤ 2 ∧ 3 ≤ [0x00#8, 0, 1].length ∧ beValue ([0x00#8, 0, 1].take 2) = 0 ∧
      beValue ([0x00#8, 1, 1].take 2) ≠ 0 ∧ ([0x00#8, 1, 0].getD 2 0).toNat = 0 ∧ 6 < ([0x00#8, 1, 7].getD 2 0).toNat ∧
      [0x00#8, 1, 1].length ≠ 3 + 4 * ([0x00#8, 1, 1].getD 2 0).toNat) ∧
    (tankerPairLegal (500, 9999) ∧ tankerPairLegal (20000, 0xFFFF) ∧ ¬ tankerPairLegal (499, 0) ∧
      ¬ tankerPairLegal (20001, 0) ∧ ¬ tankerPairLegal (500, 10000)) :=
  ⟨rfl, rfl, rfl, rfl, by decide, by decide +kernel, rfl, rfl, rfl,
    ⟨rfl, rfl, office_admits rfl, office_admits rfl, office_admits rfl⟩, by decide, by simp [tankerPairLegal]⟩

/-- Payloads at the edges of both arguments; a tag that no tanker holds; an index above the tanker's one compartment. -/
theorem witness_AddressChecked :
    ReqName.addressed .revoke = true ∧ arrived.admits .A .revoke ∧ arrived.tablesAgree ∧
    (ReqName.addressed .book = true ∧ arrived.admits .A .book) ∧
    ReqName.restLegal .revoke [] = true ∧ [0x0A#8].length < 2 ∧ beValue ([0x00#8, 0, 1].take 2) = 0 ∧
    beValue ([0x00#8, 1].take 2) ≠ 0 ∧ ([0x00#8, 1, 0].getD 2 0).toNat = 0 ∧ 6 < ([0x00#8, 1, 7].getD 2 0).toNat ∧
    (∀ t k, arrived.tankerAt t = some k → k.tag ≠ 65535) ∧
    (arrived.tankerAt 0 = some (tanker none) ∧ (tanker none).tag = 2718 ∧ (tanker none).count < 2) :=
  ⟨rfl, yard_admits _ _ _ rfl, yard_tables _ _ rfl rfl, ⟨rfl, yard_admits _ _ _ rfl⟩, rfl, by decide, by decide, by decide,
    by decide, by decide, fun t k h => by obtain ⟨-, rfl⟩ := yard_tanker h; decide, by decide +kernel⟩

theorem witness_HolderChecked :
    (ReqName.restLegal .giveBack [] = true ∧ ReqName.needsTheHold .giveBack = true) ∧
    (queued.admits .C .giveBack ∧ queued.names 2718 1 (found none (comp (.queued booking plan))) ∧
      (CompState.queued booking plan).holder = none) ∧
    ((washing .active plan).admits .D .giveBack ∧
      (washing .active plan).names 2718 1 (found (some .C) (comp (.washing booking plan .C .active))) ∧
      (CompState.washing booking plan .C .active).holder = some .C ∧ Port.C ≠ .D) ∧
    ((washing .active plan).admits .A .book ∧ ReqName.needsNobody .book = true ∧
      ReqName.restLegal .book [(2, 9999), (1, 2)] = true) :=
  ⟨by decide, ⟨yard_admits _ _ _ rfl, yard_names _ _ rfl rfl, rfl⟩,
    ⟨yard_admits _ _ _ rfl, yard_names _ _ rfl rfl, rfl, by decide⟩, yard_admits _ _ _ rfl, by decide⟩

/-! ### Witnesses: the clock, the timers, the lines -/

/-- Each kind of record at the edge of its timer; and with the mark that an advance is owed. -/
theorem witness_AdvanceReachesEveryRecord :
    (∀ st, ∀ k c, (yard none (comp st) []).compAt k = some c → c.advanceDue = false) ∧
    ({ plan with active := 598, silence := 58 }.active + 1 < { plan with active := 598, silence := 58 }.current.maxActive ∧
      58 + 1 < 60) ∧
    { plan with active := 599 }.current.maxActive ≤ 599 + 1 ∧ 60 ≤ 59 + 1 ∧
    (release.frozen = false ∧ 1 < { release with remaining := 2 }.remaining ∧
      { release with remaining := 1 }.remaining ≤ 1) ∧ { release with frozen := true }.frozen = true ∧
    (∀ st, (yard none { comp st with advanceDue := true } []).compAt 0 = some { comp st with advanceDue := true }) ∧
    (∃ u, exec (.silenceExpiry 0) released = .next u) ∧ (∃ u, exec (.activeTimeExpiry 0) released = .next u) ∧
    (∃ u, exec (.releaseExpiry 0) released = .next u) :=
  ⟨fun st k c h => by obtain ⟨-, rfl⟩ := yard_comp h; rfl, by decide, by decide, by decide, by decide, rfl,
    fun st => by rw [yard_compAt, if_pos rfl], ⟨_, rfl⟩, ⟨_, rfl⟩, ⟨_, rfl⟩⟩

/-- Records that owe an advance, and records that do not, at the edges. -/
theorem witness_ExpiriesAreTaken :
    (∀ c, (yard none c []).compAt 0 = some c) ∧
    ({ plan with active := 598, silence := 59 }.active + 1 < { plan with active := 598, silence := 59 }.current.maxActive ∧
      59 ≤ { plan with active := 598, silence := 59 }.silence) ∧
    { plan with silence := 58 }.silence < 59 ∧
    ({ plan with active := 599 }.current.maxActive ≤ { plan with active := 599 }.active + 1) ∧
    ({ comp .arrived with faults := 1 }.faults < 2 ∧ { comp .arrived with faults := 2 }.faults = 2) ∧
    { comp .arrived with advanceDue := true }.advanceDue = true ∧ (comp .arrived).advanceDue = false ∧
    CompState.arrived.washPhase ≠ some .active ∧
    (release.frozen = false ∧ { release with remaining := 1 }.remaining ≤ 1 ∧ 1 < { release with remaining := 2 }.remaining) ∧
    (∀ b pl r, CompState.arrived ≠ .released b pl r) :=
  ⟨fun c => by rw [yard_compAt, if_pos rfl], by decide, by decide, by decide, by decide, rfl, rfl, by decide, by decide,
    fun _ _ _ h => by cases h⟩

theorem witness_SetTimeLoadsTheClock :
    released.admits .A .setTime ∧ [0x00#8, 0, 0].length ≠ 4 ∧ [0x00#8, 0, 0, 0, 0].length ≠ 4 ∧
    ((yard none (comp (.released booking plan { release with remaining := 1 })) []).compAt 0
      = some (comp (.released booking plan { release with remaining := 1 })) ∧
      { release with remaining := 1 }.frozen = false ∧ (comp .arrived).advanceDue = false ∧
      (comp .arrived).incident = none) :=
  ⟨yard_admits _ _ _ rfl, by decide, by decide, by rw [yard_compAt, if_pos rfl], rfl, rfl, rfl⟩

def lost : Incident := ⟨.groundLost, 212300, some .F, 1⟩

theorem witness_IncidentsKeptUntilAcknowledged :
    (comp .arrived).incident = none ∧ { comp .arrived with incident := some lost }.incident = some lost ∧
    arrived.admits .A .ackIncident ∧ arrived.names 2718 1 (found none (comp .arrived)) ∧
    (yard none { comp .arrived with incident := some lost } []).names 2718 1
      (found none { comp .arrived with incident := some lost }) :=
  ⟨rfl, rfl, yard_admits _ _ _ rfl, yard_names _ _ rfl rfl, yard_names _ _ rfl rfl⟩

/-- A line whose instance has no demand, and one whose instance has one. -/
theorem witness_LatchesAreDriven :
    (∀ f d, (office.line 2).func = some f → office.demand f ≠ some d) ∧
    ((filling fill noHalts).line 8).func = some (.permit 0) ∧ (filling fill noHalts).demand (.permit 0) = some true :=
  ⟨fun f d h => (by cases h), by decide +kernel, by decide +kernel⟩

theorem witness_OutputDrivesItsPin :
    (office.line 8).mode = .outputPushPull ∧ (office.line 14).mode = .outputOpen ∧
    (office.line 0).mode ≠ .outputPushPull ∧ (office.line 0).mode ≠ .outputOpen := by decide +kernel

/-- Line 0 of the office's yard is LOW with depth 4 and reads ACTIVE; line 2 is unbound, INPUT and UNSETTLED. -/
theorem witness_SampleFiltersTheLevel :
    ((office.line 2).mode = .input ∧ (office.line 2).level = .unsettled) ∧
    (((office.setLine 2 { resetLine with level := .active }).line 2).mode = .input ∧
      ((office.setLine 2 { resetLine with level := .active }).line 2).level = .active ∧
      ((office.setLine 2 { resetLine with level := .active }).line 2).polarity = .high ∧
      ∀ a : Arm, ((office.setLine 2 { resetLine with level := .active }).line 2).func ≠ some (.ground a) ∧
        ((office.setLine 2 { resetLine with level := .active }).line 2).func ≠ some (.overfill a)) ∧
    ((office.line 0).mode = .inputFiltered ∧ (office.line 0).level = .active ∧ (office.line 0).polarity = .low ∧
      (office.line 0).run + 1 < (office.line 0).depth) ∧
    (({ office.line 1 with run := 1, func := none } : Line).depth ≤ 1 + 1 ∧
      ∀ a : Arm, ({ office.line 1 with func := none } : Line).func ≠ some (.ground a) ∧
        ({ office.line 1 with func := none } : Line).func ≠ some (.overfill a)) ∧
    ((office.line 8).mode ≠ .input ∧ (office.line 8).mode ≠ .inputFiltered) := by decide +kernel

/-- Lines 0 and 1 one sample short of a level event, with a fill on the arm and with none. -/
theorem witness_LineEventHaltsTheFill :
    (({ office.line 0 with run := 3 } : Line).mode = .inputFiltered ∧ ({ office.line 0 with run := 3 } : Line).depth ≤ 3 + 1 ∧
      (office.line 0).func = some (.ground 0) ∧ (office.line 0).level = .active ∧
      sampledLevel (office.line 0).polarity true = .inactive) ∧
    (({ office.line 1 with run := 1 } : Line).mode = .inputFiltered ∧ ({ office.line 1 with run := 1 } : Line).depth ≤ 1 + 1 ∧
      (office.line 1).func = some (.overfill 0) ∧ (office.line 1).level = .inactive ∧
      sampledLevel (office.line 1).polarity true = .active) ∧
    arrived.fillOn 0 = none ∧
    (filling fill noHalts).fillOn 0 = some (0, comp (fillingSt fill noHalts)) ∧
    (({ office.line 0 with level := .inactive } : Line).level = .inactive ∧
      sampledLevel (office.line 0).polarity false = .active) := by decide +kernel

/-- A line bound to the probe of port E. -/
def probed (x : Probe) : State :=
  (office.setLine 16 ⟨.analog, .high, 0, some (.rinseProbe .E), .unsettled, 0, false, none⟩).setProbe .E (some x)

theorem witness_ConversionReachesTheProbe :
    ((probed ⟨none, true⟩).line 16).mode = .analog ∧ ((probed ⟨none, true⟩).line 16).func = some (.rinseProbe .E) ∧
    ((probed ⟨none, true⟩).probe .E).isSome = true ∧
    (((office.setLine 17 { resetLine with mode := .analog }).line 17).mode = .analog ∧
      ((office.setLine 17 { resetLine with mode := .analog }).line 17).func = none) ∧
    (office.line 0).mode ≠ .analog := by decide +kernel

/-! ### Witnesses: the planner and the records -/

theorem admits_office {d : Option Port} {c : Comp} {q : List Entry} {r : ReqName} (h : permitted r .office = true) :
    (yard d c q).admits .A r := yard_admits d c q h

/-- A catalogue is filled by hand for the full one: 128 entries of rising code. -/
def fullCatalogue : List Product := (List.range 128).map fun n => ⟨n + 1, 1, false, 0, 80⟩

theorem planner_of {s : State} (h1 : s.catalogue.Pairwise fun x y => x.code < y.code) (h2 : s.catalogue.length ≤ 128)
    (h3 : ∀ e ∈ s.catalogue, (1 ≤ e.code ∧ e.code ≤ 9999) ∧ 1 ≤ e.cls.val ∧ e.minLevelAfter ≤ 6 ∧
      (80 ≤ e.fillPercent ∧ e.fillPercent ≤ 98))
    (h4 : ∀ r c : ClassNo, s.matrixLevel r c ≤ 7)
    (h5 : ∀ c : ClassNo, (1 ≤ (s.classLimit c).conductivity ∧ (s.classLimit c).conductivity ≤ 20000) ∧
      (1 ≤ (s.classLimit c).validityHours ∧ (s.classLimit c).validityHours ≤ 48))
    (h6 : ∀ n : Fin 6, (s.programs[n]).length ≤ 6 ∧ ∀ st ∈ s.programs[n],
      st.tMin ≤ 1400 ∧ st.fMin ≤ 600 ∧ (1 ≤ st.dReq ∧ st.dReq ≤ 60000) ∧ (60 ≤ st.maxActive ∧ st.maxActive ≤ 7200)) :
    s.plannerAgrees :=
  ⟨h1, h2, h3, h4, h5, h6⟩

theorem yard_planner (d : Option Port) (c : Comp) (q : List Entry) : (yard d c q).plannerAgrees :=
  planner_of (s := office) (by decide +kernel) (by decide +kernel) (by decide +kernel) (by decide +kernel)
    (by decide +kernel) (by decide +kernel)

theorem yard_holdsCode {d : Option Port} {c : Comp} {q : List Entry} {n : Nat} :
    (yard d c q).holdsCode n ↔ (∃ l, c.last = some l ∧ l.code = n) ∨ ∃ b, c.st.booking = some b ∧ b.target = n := by
  constructor
  · rintro ⟨k, x, h, h'⟩
    obtain ⟨-, rfl⟩ := yard_comp h
    exact h'
  · intro h
    exact ⟨0, c, by rw [yard_compAt, if_pos rfl], h⟩

/-- The entry of a code in use (310), of a code to replace (2250), of a new code in a catalogue with room and in a full
one; codes 0 and 10000, codes at the ends of the range. -/
theorem witness_CatalogueIsWritten :
    arrived.admits .A .defineProduct ∧ arrived.admits .A .deleteProduct ∧ arrived.plannerAgrees ∧ arrived.holdsCode 310 ∧
    (¬ arrived.holdsCode 2250 ∧ arrived.product? 2250 ≠ none) ∧
    (¬ arrived.holdsCode 9999 ∧ arrived.product? 9999 = none ∧ arrived.catalogue.length < 128) ∧
    (({ State.reset with catalogue := fullCatalogue } : State).plannerAgrees ∧
      ({ State.reset with catalogue := fullCatalogue } : State).product? 129 = none ∧ fullCatalogue.length = 128) ∧
    (0 = 256 * (0x00#8).toNat + (0x00#8).toNat ∧ 10000 = 256 * (0x27#8).toNat + (0x10#8).toNat ∧
      9999 = 256 * (0x27#8).toNat + (0x0F#8).toNat ∧ 1 = 256 * (0x00#8).toNat + (0x01#8).toNat) := by
  refine ⟨admits_office rfl, admits_office rfl, yard_planner _ _ _, yard_holdsCode.2 (.inl ⟨_, rfl, rfl⟩), ⟨?_, by decide +kernel⟩,
    ⟨?_, by decide +kernel⟩, ⟨planner_of (by decide +kernel) (by decide +kernel) (by decide +kernel) (by decide +kernel)
      (by decide +kernel) (by decide +kernel), by decide +kernel, by decide +kernel⟩, by decide⟩ <;>
  · rw [arrived, yard_holdsCode]
    rintro (⟨l, h, h'⟩ | ⟨b, h, -⟩)
    · cases h
      simp at h'
    · cases h

theorem witness_PlanningTablesAreWritten :
    office.admits .A .setMatrixRow ∧ office.admits .A .setClassLimit ∧ office.admits .A .defineProgram ∧
    (∀ c : ClassNo, rowFour[c] ≤ 7) ∧
    (∀ st ∈ [(⟨.rinse, 1400, 600, 60000, 7200⟩ : WashStep), ⟨.air, 0, 0, 1, 60⟩], st.legal) :=
  ⟨office_admits rfl, office_admits rfl, office_admits rfl, by decide, by simp [WashStep.legal]⟩

/-- An unknown last product; one forbidden before a food product; one raised by its minimum level after; CLEAN at level 0,
with the food-bay flag clear and set. -/
theorem witness_DerivationFindsTheLevel :
    ({ comp .arrived with last := none } : Comp).last = none ∧
    ((comp .arrived).last = some ⟨310, 4⟩ ∧ office.matrixLevel 4 2 = 7 ∧ office.matrixLevel 4 6 = 2 ∧
      office.product? 310 = some ⟨310, 4, false, 3, 97⟩) ∧
    (({ comp .arrived with last := some ⟨0, 0⟩ } : Comp).last = some ⟨0, 0⟩ ∧ office.matrixLevel 0 2 = 0 ∧
      office.matrixLevel 0 2 ≠ 7) := by decide +kernel

theorem witness_EntriesJoinTheirGroup : queued.urgentFirst ∧ arrived.urgentFirst :=
  ⟨by simp [State.urgentFirst, queued, yard, State.setComp, State.setTanker],
    by simp [State.urgentFirst, arrived, yard, State.setComp, State.setTanker]⟩

/-- A compartment whose last product is CLEAN. -/
def clean (st : CompState) : Comp := { comp st with last := some ⟨0, 0⟩ }

/-- The yard with every program undefined. -/
def noPrograms (c : Comp) (q : List Entry) : State := { yard none c q with programs := resetPrograms }

theorem noPrograms_names {c : Comp} (q : List Entry) (ht : c.tag = 2718) (hi : c.index = 1) :
    (noPrograms c q).names 2718 1 (found none c) := yard_names none q ht hi

theorem noPrograms_admits (c : Comp) (q : List Entry) {r : ReqName} (h : permitted r .office = true) :
    (noPrograms c q).admits .A r := yard_admits none c q h

/-- The targets 4100 (class 6) and 2250 (class 2, FOOD), and the clean return 0, in the tests' catalogue. -/
theorem yard_targets (d : Option Port) (c : Comp) (q : List Entry) :
    (yard d c q).product? 4100 = some ⟨4100, 6, false, 0, 96⟩ ∧ (yard d c q).product? 2250 = some ⟨2250, 2, true, 0, 98⟩ ∧
    (yard d c q).product? 9999 = none := ⟨rfl, rfl, rfl⟩

theorem witness_BookFirstPlan :
    (arrived.admits .A .book ∧ arrived.names 2718 1 (found none (comp .arrived))) ∧
    (yard none (comp (.blockedForbidden booking)) []).names 2718 1 (found none (comp (.blockedForbidden booking))) ∧
    arrived.derive (comp .arrived) 2 (arrived.foodTarget 2250) = .forbidden ∧
    ((yard none (clean .arrived) []).names 2718 1 (found none (clean .arrived)) ∧
      (yard none (clean .arrived) []).derive (clean .arrived) 2 true = .level 0) ∧
    (arrived.derive (comp .arrived) 6 (arrived.foodTarget 4100) = .level 3 ∧ arrived.program 3 ≠ []) ∧
    (arrived.derive (comp .arrived) 0 (arrived.foodTarget 0) = .level 3) ∧
    ((noPrograms (comp .arrived) []).names 2718 1 (found none (comp .arrived)) ∧
      (noPrograms (comp .arrived) []).derive (comp .arrived) 6 false = .level 3 ∧
      (noPrograms (comp .arrived) []).program 3 = []) :=
  ⟨⟨admits_office rfl, yard_names _ _ rfl rfl⟩, yard_names _ _ rfl rfl, by decide +kernel,
    ⟨yard_names _ _ rfl rfl, by decide +kernel⟩, by decide +kernel, by decide +kernel,
    noPrograms_names _ rfl rfl, by decide +kernel⟩

/-- The plan of the tests with its food-bay flag clear. -/
def dirty : Plan := { plan with foodBay := false }

theorem witness_BookQueuedCompartment :
    (queued.admits .A .book ∧ queued.names 2718 1 (found none (comp (.queued booking plan)))) ∧
    queued.derive (comp (.queued booking plan)) 2 true = .forbidden ∧
    ((yard none (clean (.queued booking plan)) [entry]).names 2718 1 (found none (clean (.queued booking plan))) ∧
      (yard none (clean (.queued booking plan)) [entry]).derive (clean (.queued booking plan)) 6 false = .level 0) ∧
    (queued.derive (comp (.queued booking plan)) 6 false = .level 3 ∧ 3 = plan.level ∧
      (Priority.normal = booking.priority ∧ Priority.urgent ≠ booking.priority)) ∧
    ((yard none (clean (.queued booking dirty)) [entry]).derive (clean (.queued booking dirty)) 2 true = .level 1 ∧
      1 ≠ dirty.level ∧ office.program 1 ≠ []) ∧
    ((noPrograms (clean (.queued booking dirty)) [entry]).derive (clean (.queued booking dirty)) 2 true = .level 1 ∧
      (noPrograms (clean (.queued booking dirty)) [entry]).program 1 = []) :=
  ⟨⟨admits_office rfl, yard_names _ _ rfl rfl⟩, by decide +kernel, ⟨yard_names _ _ rfl rfl, by decide +kernel⟩,
    by decide +kernel, by decide +kernel, by decide +kernel⟩

/-- A release that covers the booking at the edges of its three tests, and releases that fail each of them. -/
theorem witness_BookWashedOrReleased :
    (released.admits .A .book ∧ released.names 2718 1 (found none (comp (.released booking plan release)))) ∧
    (released.derive (comp (.released booking plan release)) 6 false = .level 3 ∧ 3 ≤ release.performed ∧
      { release with conductivity := 200 }.conductivity ≤ (released.classLimit 6).conductivity) ∧
    ({ release with performed := 2 }.performed < 3 ∧
      (released.classLimit 6).conductivity < { release with conductivity := 201 }.conductivity ∧
      release.foodBay = false) ∧
    (washed.names 2718 1 (found none (comp (.washed booking plan))) ∧
      washed.derive (comp (.washed booking plan)) 2 true = .forbidden ∧
      washed.derive (comp (.washed booking plan)) 6 false = .level 3 ∧ (comp (.washed booking plan)).performed < 3 ∧
      3 ≤ ({ comp (.washed booking plan) with performed := 3 } : Comp).performed ∧ washed.program 3 ≠ [] ∧
      (noPrograms (comp (.washed booking plan)) []).program 3 = []) :=
  ⟨⟨admits_office rfl, yard_names _ _ rfl rfl⟩, by decide +kernel, by decide +kernel, yard_names _ _ rfl rfl,
    by decide +kernel⟩

theorem witness_BookBlockedAndRefused :
    ((yard none (comp (.loaded ⟨0, false⟩)) []).admits .A .book ∧
      (yard none (comp (.loaded ⟨0, false⟩)) []).names 2718 1 (found none (comp (.loaded ⟨0, false⟩)))) ∧
    (arrived.product? 9999 = none ∧ (comp .arrived).st.holder = none ∧ ∀ q, (comp .arrived).st ≠ .loaded q) ∧
    ((yard none (comp (.blockedFaults booking none)) []).names 2718 1 (found none (comp (.blockedFaults booking none))) ∧
      (yard none (comp (.blockedFaults booking none)) []).derive (comp (.blockedFaults booking none)) 2 true = .forbidden ∧
      (yard none (clean (.blockedFaults booking none)) []).derive (clean (.blockedFaults booking none)) 6 false = .level 0 ∧
      (yard none (comp (.blockedFaults booking none)) []).derive (comp (.blockedFaults booking none)) 6 false = .level 3 ∧
      office.program 3 ≠ [] ∧ (noPrograms (comp (.blockedFaults booking none)) []).program 3 = []) :=
  ⟨⟨admits_office rfl, yard_names _ _ rfl rfl⟩, ⟨rfl, rfl, fun _ h => by cases h⟩, yard_names _ _ rfl rfl,
    by decide +kernel⟩

theorem witness_UnblockDerivesAgain :
    (arrived.admits .A .unblock ∧ stateCode (comp .arrived).st ≠ 9) ∧
    ((yard none (comp (.blockedForbidden booking)) []).names 2718 1 (found none (comp (.blockedForbidden booking))) ∧
      (yard none (comp (.blockedForbidden booking)) []).derive (comp (.blockedForbidden booking)) 6 false = .level 3) ∧
    ((yard none (comp (.blockedForbidden ⟨2250, 2, .normal⟩)) []).derive (comp (.blockedForbidden ⟨2250, 2, .normal⟩)) 2
      (office.foodTarget 2250) = .forbidden) ∧
    ((yard none (clean (.blockedFaults booking (some dirty))) []).derive (clean (.blockedFaults booking (some dirty))) 6
      false = .level 0) ∧
    (office.program 3 ≠ [] ∧ (noPrograms (comp (.blockedFaults booking none)) []).program 3 = []) :=
  ⟨⟨admits_office rfl, by decide⟩, ⟨yard_names _ _ rfl rfl, by decide +kernel⟩, by decide +kernel, by decide +kernel,
    by decide +kernel⟩

/-- The yard with all 32 tanker slots taken. -/
def crowded : State := { office with tankers := Vector.replicate 32 (some (tanker none)) }

/-- Six compartments at the ends of their ranges; a tag in use; a full table; an unknown code in the second place. -/
theorem witness_RegisterTankerMakesRecords :
    office.admits .A .registerTanker ∧
    (∀ x ∈ [(500, 0), (20000, 0xFFFF), (7600, 4100), (500, 310), (500, 2250), (500, 0)],
      (500 ≤ x.1 ∧ x.1 ≤ 20000) ∧ (x.2 ≤ 9999 ∨ x.2 = 0xFFFF)) ∧
    (∀ x ∈ [(500, 0), (20000, 0xFFFF), (7600, 4100), (500, 310), (500, 2250), (500, 0)],
      x.2 = 0 ∨ x.2 = 0xFFFF ∨ office.product? x.2 ≠ none) ∧
    (arrived.tankerAt 0 = some (tanker none) ∧ (tanker none).tag = 2718) ∧
    ((∀ t k, crowded.tankerAt t = some k → k.tag ≠ 1) ∧ ∀ t, crowded.tankerAt t ≠ none) ∧
    (office.unknownCode 310 = false ∧ office.product? 9999 = none) ∧
    ((∀ t k, arrived.tankerAt t = some k → k.tag ≠ 65535) ∧ arrived.tankerAt 1 = none ∧
      ∀ t : TankerSlot, t.val < 1 → arrived.tankerAt t ≠ none) := by
  refine ⟨office_admits rfl, by decide +kernel, by decide +kernel, by decide +kernel, ⟨fun t k h => ?_, by decide +kernel⟩,
    by decide +kernel, fun t k h => ?_, by decide +kernel, by decide +kernel⟩
  · have : k = tanker none := by simpa [crowded, State.tankerAt, eq_comm] using h
    rw [this]
    decide
  · obtain ⟨-, rfl⟩ := yard_tanker h
    decide

theorem witness_DepartTankerRemovesAll :
    (arrived.admits .A .departTanker ∧ arrived.tablesAgree ∧ ∀ t k, arrived.tankerAt t = some k → k.tag ≠ 0) ∧
    ((washing .active plan).tablesAgree ∧ (washing .active plan).tankerAt 0 = some (tanker (some .C)) ∧
      (washing .active plan).compAt (compSlot 0 1) = some (comp (.washing booking plan .C .active)) ∧
      (CompState.washing booking plan .C .active).holder ≠ none) ∧
    (2718 = 256 * (0x0A#8).toNat + (0x9E#8).toNat ∧ arrived.tankerAt 0 = some (tanker none) ∧
      ∀ (j : Fin 6) (c : Comp), arrived.compAt (compSlot 0 (j.val + 1)) = some c → c.st.holder = none) :=
  ⟨⟨admits_office rfl, yard_tables _ _ rfl rfl, fun t k h => by obtain ⟨-, rfl⟩ := yard_tanker h; decide⟩,
    ⟨yard_tables _ _ rfl rfl, by decide +kernel⟩, by decide, by decide +kernel,
    fun j c h => by obtain ⟨-, rfl⟩ := yard_comp h; rfl⟩

theorem witness_ClearYardEmptiesTheYard :
    queued.admits .A .clearYard ∧ (queued.line 8).func = some (.permit 0) ∧ (queued.line 14).func = some (.washEnable .C) ∧
    (queued.line 20).func = some .alarm ∧ (queued.line 2).func = none :=
  ⟨admits_office rfl, by decide +kernel⟩

theorem witness_RevokeByState :
    ((washing .active plan).admits .A .revoke ∧
      (washing .active plan).names 2718 1 (found (some .C) (comp (.washing booking plan .C .active)))) ∧
    (inspecting 0 plan).names 2718 1 (found none { comp (.inspecting booking plan .E) with performed := 3 }) ∧
    released.names 2718 1 (found none (comp (.released booking plan release))) ∧
    ((filling fill noHalts).names 2718 1 (found none (comp (fillingSt fill noHalts))) ∧
      (filling fill noHalts).product? fill.product = some ⟨4100, 6, false, 0, 96⟩) ∧
    (arrived.names 2718 1 (found none (comp .arrived)) ∧ stateCode CompState.arrived = 1) :=
  ⟨⟨admits_office rfl, yard_names _ _ rfl rfl⟩, yard_names _ _ rfl rfl, yard_names _ _ rfl rfl,
    ⟨yard_names _ _ rfl rfl, rfl⟩, yard_names _ _ rfl rfl, rfl⟩

/-! ### Witnesses: the bays -/

/-- A bay that holds two compartments; an eligible first entry; an empty queue; entries a bay may not take, docked and not. -/
theorem witness_NextWorkHandsOutTheFirstEligible :
    (queued.admits .C .nextWork ∧ queued.tablesAgree ∧ queued.dockingsAgree ∧ queued.queue.Nodup) ∧
    2 ≤ (((washing .active plan).setComp 1 (comp (.washing booking plan .C .between))).heldBy .C).length ∧
    ((queued.heldBy .C).length < 2 ∧ queued.queue = [] ++ entry :: [] ∧
      queued.mayHandOut .C entry (found none (comp (.queued booking plan))) booking plan) ∧
    ((arrived.heldBy .C).length < 2 ∧ arrived.dockingsAgree ∧ arrived.queue = [] ∧
      ∀ t k, arrived.tankerAt t = some k → k.docked ≠ some .C) ∧
    ((yard (some .C) (comp (.queued booking { plan with needs := ⟨false, true, false⟩ })) [entry]).dockingsAgree ∧
      (∀ x ∈ (yard (some .C) (comp (.queued booking { plan with needs := ⟨false, true, false⟩ })) [entry]).queue,
        ∀ g c ql, ¬ (yard (some .C) (comp (.queued booking { plan with needs := ⟨false, true, false⟩ }))
          [entry]).mayHandOut .C x g c ql) ∧
      (tanker (some .C)).docked = some .C) := by
  refine ⟨⟨yard_admits _ _ _ rfl, yard_tables _ _ rfl rfl, yard_dockings _ _ _ fun _ _ _ _ h => (by cases h), by decide +kernel⟩,
    by decide +kernel, ⟨by decide +kernel, by decide +kernel, yard_find _ _ _ rfl rfl, rfl,
      .inr ⟨rfl, fun t k h => by obtain ⟨-, rfl⟩ := yard_tanker h; decide⟩, fun _ => rfl, by decide, by decide⟩,
    ⟨by decide +kernel, yard_dockings _ _ _ fun _ _ _ _ h => (by cases h), by decide +kernel,
      fun t k h => by obtain ⟨-, rfl⟩ := yard_tanker h; decide⟩,
    yard_dockings _ _ _ fun _ _ _ _ h => (by cases h), fun x hx g b pl h => ?_, rfl⟩
  obtain rfl : x = entry := by simpa [yard, State.setComp, State.setTanker] using hx
  have hg := (yard_find (some .C) (comp (.queued booking { plan with needs := ⟨false, true, false⟩ })) [entry] rfl rfl).symm.trans h.1
  cases hg
  have hst := h.2.1
  cases hst
  exact absurd (h.2.2.2.2.1 rfl) (by decide +kernel)

theorem witness_GiveBackAndUndock :
    ((washing .between plan).admits .C .giveBack ∧
      (washing .between plan).names 2718 1 (found (some .C) (comp (.washing booking plan .C .between)))) ∧
    ((washing .between plan).queueAgrees ∧ (washing .between plan).urgentFirst) ∧
    (booking.priority = .normal ∧ { booking with priority := .urgent }.priority = .urgent) ∧
    ((arrived.admits .C .undock ∧ arrived.dockingsAgree) ∧ ∀ t k, arrived.tankerAt t = some k → k.docked ≠ some .C) ∧
    ((yard (some .C) (comp .arrived) []).tankerAt 0 = some (tanker (some .C)) ∧
      ∀ j c, (yard (some .C) (comp .arrived) []).compAt j = some c → c.st.holder ≠ some .C) ∧
    ((washing .between plan).tankerAt 0 = some (tanker (some .C)) ∧
      (washing .between plan).compAt 0 = some (comp (.washing booking plan .C .between)) ∧
      ∀ i d, (washing .between plan).compAt i = some d → d.st.holder = some .C → 1 ≤ d.index) :=
  ⟨⟨yard_admits _ _ _ rfl, yard_names _ _ rfl rfl⟩,
    ⟨yard_queueAgrees rfl rfl fun _ _ h => (by cases h),
      by simp [State.urgentFirst, washing, yard, State.setComp, State.setTanker]⟩, ⟨rfl, rfl⟩,
    ⟨⟨yard_admits _ _ _ rfl, yard_dockings _ _ _ fun _ _ _ _ h => (by cases h)⟩,
      fun t k h => by obtain ⟨-, rfl⟩ := yard_tanker h; decide⟩,
    ⟨by decide +kernel, fun j c h => by obtain ⟨-, rfl⟩ := yard_comp h; decide⟩,
    by decide +kernel, by decide +kernel, fun i d h _ => by obtain ⟨-, rfl⟩ := yard_comp h; decide⟩

/-- The step index at both ends of 1 to 6, and active seconds below and at the step's maximum. -/
theorem witness_StepStartSetsTheCounts :
    (∀ ph pl, (washing ph pl).admits .C .stepStart ∧
      (washing ph pl).names 2718 1 (found (some .C) (comp (.washing booking pl .C ph)))) ∧
    (WashPhase.between ≠ .active ∧ WashPhase.stalled .overrun ≠ .active) ∧ (1 = plan.index ∧ 6 ≠ plan.index) ∧
    plan.steps[plan.index - 1]? = some rinse ∧ { plan with active := 599 }.active < rinse.maxActive ∧
    ¬ { plan with active := 600 }.active < rinse.maxActive :=
  ⟨fun ph pl => ⟨yard_admits _ _ _ rfl, yard_names _ _ rfl rfl⟩, by decide, by decide, rfl, by decide, by decide⟩

/-- Quantities at their ceilings and above, each gate at its edge, and a dose at and below the requirement, on the first
and on the last step. -/
theorem witness_WashSampleEarnsDose :
    (∀ ph pl, (washing ph pl).admits .C .washSample ∧
      (washing ph pl).names 2718 1 (found (some .C) (comp (.washing booking pl .C ph)))) ∧
    plan.steps[plan.index - 1]? = some rinse ∧ (Medium.air ≠ rinse.medium ∧ 0 + 1 < 3 ∧ 3 ≤ 2 + 1) ∧
    (min 255 30 = 30 ∧ min 65535 1500 = 1500 ∧ min 65535 600 = 600) ∧
    (199 < rinse.tMin ∧ 99 < rinse.fMin ∧ rinse.tMin ≤ 200 ∧ rinse.fMin ≤ 100) ∧
    (16 * 2 ^ min ((200 - rinse.tMin) / 100) 3 = 16 ∧ min (303 + 1 * 16) 65535 < rinse.dReq ∧
      rinse.dReq ≤ min (304 + 1 * 16) 65535) ∧
    ((yard (some .C) edge []).admits .C .washSample ∧ (yard (some .C) edge []).names 2718 1 (found (some .C) edge) ∧
      edge.advanceDue = true ∧ 598 + 1 < rinse.maxActive ∧ rinse.maxActive ≤ 599 + 1) ∧
    (plan.index < plan.steps.length ∧ { plan with index := 3 }.steps.length ≤ 3 ∧
      { plan with index := 3 }.steps[3 - 1]? = some rinse) :=
  ⟨fun ph pl => ⟨yard_admits _ _ _ rfl, yard_names _ _ rfl rfl⟩, rfl, by decide, by decide, by decide, by decide,
    ⟨yard_admits _ _ _ rfl, yard_names _ _ rfl rfl, rfl, by decide, by decide⟩, by decide⟩

/-! ### Witnesses: inspection and filling -/

theorem bindings_of {s : State}
    (h1 : ∀ l m : LineNo, (s.line l).func ≠ none → (s.line l).func = (s.line m).func → l = m)
    (h2 : ∀ p ∈ [Port.A, .B, .C, .D, .E, .F], (s.probe p).isSome = true ↔ ∃ l : LineNo, (s.line l).func = some (.rinseProbe p)) :
    s.bindingsAgree :=
  ⟨fun l m f e1 e2 => h1 l m (fun h => Option.some_ne_none f (e1.symm.trans h)) (e1.trans e2.symm),
    fun p => h2 p (by cases p <;> decide)⟩

/-- The test yard with line 16 bound to the probe of port E and this probe record. -/
def probedYard (c : Comp) (x : Probe) : State :=
  (((yard none c []).setLine 16 ⟨.analog, .high, 0, some (.rinseProbe .E), .unsettled, 0, false, none⟩)).setProbe .E (some x)

theorem probedYard_bindings (c : Comp) (x : Probe) : (probedYard c x).bindingsAgree :=
  bindings_of (s := (probed x)) (by
    have h : ∀ l m : LineNo, ((probed ⟨none, false⟩).line l).func ≠ none →
        ((probed ⟨none, false⟩).line l).func = ((probed ⟨none, false⟩).line m).func → l = m := by decide +kernel
    exact h) (by
    have h : ∀ p ∈ [Port.A, .B, .C, .D, .E, .F], ((probed ⟨none, false⟩).probe p).isSome = true ↔
        ∃ l : LineNo, ((probed ⟨none, false⟩).line l).func = some (.rinseProbe p) := by decide +kernel
    intro p hp
    rw [show ((probed x).probe p).isSome = ((probed ⟨none, false⟩).probe p).isSome by cases p <;> rfl]
    exact h p hp)

theorem probedYard_names {c : Comp} (x : Probe) (ht : c.tag = 2718) (hi : c.index = 1) :
    (probedYard c x).names 2718 1 (found none c) := yard_names none [] ht hi

theorem witness_InspectBeginAndCancel :
    (washed.admits .E .inspectBegin ∧ washed.names 2718 1 (found none (comp (.washed booking plan))) ∧
      washed.bindingsAgree ∧ ∀ l, (washed.line l).func ≠ some (.rinseProbe .E)) ∧
    (∀ x, (probedYard (comp (.washed booking plan)) x).names 2718 1 (found none (comp (.washed booking plan))) ∧
      (probedYard (comp (.washed booking plan)) x).bindingsAgree ∧
      (probedYard (comp (.washed booking plan)) x).probe .E = some x) ∧
    (arrived.names 2718 1 (found none (comp .arrived)) ∧ CompState.arrived.holder = none ∧ stateCode .arrived ≠ 4) ∧
    ((inspecting 0 plan).admits .E .inspectCancel ∧
      (inspecting 0 plan).names 2718 1 (found none { comp (.inspecting booking plan .E) with performed := 3 })) :=
  ⟨⟨yard_admits _ _ _ rfl, yard_names _ _ rfl rfl, yard_bindings _ _ _, fun l => office_no_probe l .E⟩,
    fun x => ⟨probedYard_names x rfl rfl, probedYard_bindings _ x, rfl⟩, ⟨yard_names _ _ rfl rfl, rfl, by decide⟩,
    yard_admits _ _ _ rfl, yard_names _ _ rfl rfl⟩

/-- A probe that is pending, one without a reading, one that is ready; a conductivity at the limit and above; fault counts
1 and 2; a plan without steps. -/
theorem witness_InspectResultDecides :
    (∀ n pl, (inspecting n pl).admits .E .inspectResult ∧ (inspecting n pl).bindingsAgree ∧
      (inspecting n pl).names 2718 1
        (found none { comp (.inspecting booking pl .E) with faults := n, performed := 3 })) ∧
    (∀ l, ((inspecting 0 plan).line l).func ≠ some (.rinseProbe .E)) ∧
    (∀ x, (probedYard (comp (.inspecting booking plan .E)) x).bindingsAgree ∧
      (probedYard (comp (.inspecting booking plan .E)) x).admits .E .inspectResult ∧
      (probedYard (comp (.inspecting booking plan .E)) x).probe .E = some x ∧
      (probedYard (comp (.inspecting booking plan .E)) x).names 2718 1 (found none (comp (.inspecting booking plan .E)))) ∧
    ((⟨none, true⟩ : Probe).pendingMark = true ∧ (⟨none, false⟩ : Probe).reading = none ∧
      (⟨some ⟨640, 640⟩, false⟩ : Probe).reading = some ⟨640, 640⟩) ∧
    (200 ≤ (office.classLimit 6).conductivity ∧ (office.classLimit 6).conductivity < 201) ∧
    (1 < 2 ∧ plan.steps ≠ [] ∧ { plan with level := 0, steps := [] }.steps = []) :=
  ⟨fun n pl => ⟨yard_admits _ _ _ rfl, yard_bindings _ _ _, yard_names _ _ rfl rfl⟩, fun l => office_no_probe l .E,
    fun x => ⟨probedYard_bindings _ x, ⟨rfl, rfl⟩, rfl, probedYard_names x rfl rfl⟩, ⟨rfl, rfl, rfl⟩, by decide +kernel,
    by decide, by decide, rfl⟩

/-- Arms 0 and 5 and a port that is no FILL port; a mapped arm with a fill; arms 1 and 4 free, for port F and for none. -/
theorem witness_MapArmUnlessInUse :
    (arrived.admits .A .mapArm ∧ (0x00#8).toNat = 0 ∧ 4 < (0x05#8).toNat) ∧
    ((0x01#8).toNat = (0 : Arm).val + 1 ∧ 0x43#8 ≠ 0 ∧
      ∀ x, x ≠ .A → (0x43#8).toNat = portLetter x → arrived.role x ≠ .fill) ∧
    ((0x46#8).toNat = portCode (some .F) ∧ arrived.role .F = .fill ∧ (0x00#8).toNat = portCode none) ∧
    ((filling fill noHalts).oneFillEach ∧ (filling fill noHalts).compAt 0 = some (comp (fillingSt fill noHalts)) ∧
      (fillingSt fill noHalts).fill = some (fill, noHalts) ∧ fill.arm = 0 ∧ (fillingSt fill noHalts).holder = some .F) ∧
    ((∀ k c f h, arrived.compAt k = some c → c.st.fill = some (f, h) → f.arm ≠ 3) ∧
      (0x04#8).toNat = (3 : Arm).val + 1 ∧ (arrived.line 0).func = some (.ground 0) ∧
      (arrived.line 8).func = some (.permit 0) ∧ arrived.lock = true) := by
  refine ⟨⟨admits_office rfl, by decide⟩, ⟨by decide, by decide, fun x h1 h2 => ?_⟩, by decide +kernel,
    ⟨yard_oneFill _ _ _, by decide +kernel⟩, fun k c f h h1 h2 => ?_, by decide +kernel⟩
  · cases x <;> first | exact absurd rfl h1 | exact absurd h2 (by decide) | decide +kernel
  · obtain ⟨-, rfl⟩ := yard_comp h1
    cases h2

/-- A RELEASED compartment on a yard whose lines, lock or map make each check fail in turn, and pass. -/
theorem witness_FillBeginChecksAndStarts :
    (released.admits .F .fillBegin ∧ released.names 2718 1 (found none (comp (.released booking plan release))) ∧
      released.bindingsAgree ∧ released.oneFillEach ∧ (comp (.released booking plan release)).st.holder = none) ∧
    (released.armPort 1 ≠ some .F ∧ released.armPort 0 = some .F) ∧
    ((({ released with armMap := #v[none, some .F, none, none] } : State).armPort 1 = some .F) ∧
      ∀ l, (released.line l).func ≠ some (.ground 1)) ∧
    ((released.line 0).func = some (.ground 0) ∧ (released.line 8).func = some (.permit 0) ∧ released.lock = true ∧
      (∀ l, ((released.setLine 8 resetLine).line l).func ≠ some (.permit 0)) ∧
      ({ released with lock := false } : State).lock = false) ∧
    ((released.setComp 1 (comp (fillingSt fill noHalts))).compAt 1 = some (comp (fillingSt fill noHalts)) ∧
      fill.arm = 0) ∧
    (∀ k c fl h, released.compAt k = some c → c.st.fill = some (fl, h) → fl.arm ≠ 0) ∧
    (stateCode (comp (.washed booking plan)).st ≠ 6 ∧ 310 ≠ release.target ∧ 4100 = release.target ∧
      300422 ≠ release.closureTag ∧ 300417 = release.closureTag) ∧
    ((released.line 0).level = .active ∧
      ((released.setLine 0 (inputLine .inputFiltered .low 4 (.ground 0) .unsettled)).line 0).level ≠ .active ∧
      (released.line 1).func = some (.overfill 0) ∧ (released.line 1).level = .inactive ∧
      ((released.setLine 1 (inputLine .inputFiltered .high 2 (.overfill 0) .unsettled)).line 1).level ≠ .inactive) ∧
    released.product? 4100 = some ⟨4100, 6, false, 0, 96⟩ :=
  ⟨⟨yard_admits _ _ _ rfl, yard_names _ _ rfl rfl, yard_bindings _ _ _, yard_oneFill _ _ _, rfl⟩, by decide +kernel,
    by decide +kernel, by decide +kernel, by decide +kernel,
    fun k c fl h h1 h2 => (by obtain ⟨-, rfl⟩ := yard_comp h1; cases h2), by decide, by decide +kernel, rfl⟩

/-- Counts one below the limit and at it, backward, and at and above 65535. -/
theorem witness_FillVolumeStoresTheCount :
    (∀ f h, (filling f h).admits .F .fillVolume ∧ (filling f h).names 2718 1 (found none (comp (fillingSt f h)))) ∧
    (¬ fill.limit ≤ 7289 ∧ fill.limit ≤ 7290 ∧ min 1799 65535 < fill.delivered ∧ ¬ 65535 < 65535 ∧ 65535 < 65536 ∧
      4294967295 < 2 ^ 32) :=
  ⟨fun f h => ⟨yard_admits _ _ _ rfl, yard_names _ _ rfl rfl⟩, by decide⟩

theorem witness_FillResumeTestsTheLines :
    (∀ f h, (filling f h).admits .F .fillResume ∧ (filling f h).names 2718 1 (found none (comp (fillingSt f h))) ∧
      (filling f h).bindingsAgree) ∧
    ((⟨true, true, true⟩ : HaltSet).limit = true ∧ (⟨false, true, true⟩ : HaltSet).limit = false) ∧
    (((office.setLine 0 (inputLine .inputFiltered .low 4 (.ground 0) .inactive)).line 0).func = some (.ground 0) ∧
      ((office.setLine 0 (inputLine .inputFiltered .low 4 (.ground 0) .inactive)).line 0).level = .inactive) ∧
    (((office.setLine 1 (inputLine .inputFiltered .high 2 (.overfill 0) .active)).line 1).func = some (.overfill 0) ∧
      ((office.setLine 1 (inputLine .inputFiltered .high 2 (.overfill 0) .active)).line 1).level = .active) ∧
    ((∀ g, ((filling fill noHalts).line g).func = some (.ground fill.arm) →
        ((filling fill noHalts).line g).level ≠ .inactive) ∧
      ∀ o, ((filling fill noHalts).line o).func = some (.overfill fill.arm) →
        ((filling fill noHalts).line o).level ≠ .active) :=
  ⟨fun f h => ⟨yard_admits _ _ _ rfl, yard_names _ _ rfl rfl, yard_bindings _ _ _⟩, by decide, by decide +kernel,
    by decide +kernel, by decide +kernel⟩

theorem witness_FillEndLoads :
    (∀ f h, (filling f h).admits .F .fillEnd ∧ (filling f h).names 2718 1 (found none (comp (fillingSt f h)))) ∧
    (filling fill noHalts).product? fill.product = some ⟨4100, 6, false, 0, 96⟩ ∧
    (¬ fill.limit < 7290 ∧ fill.limit < 7291 ∧ min 1799 65535 < fill.delivered ∧ 65535 < 65536) :=
  ⟨fun f h => ⟨yard_admits _ _ _ rfl, yard_names _ _ rfl rfl⟩, rfl, by decide⟩

/-! ### Witnesses: roles, maps, lines and reads -/

theorem witness_SetPortRoleUnlessInUse :
    (arrived.admits .A .setPortRole ∧ Port.B ≠ .A ∧ Role.wash ≠ .office ∧ Role.fill ≠ .office) ∧
    ((washing .active plan).compAt 0 = some (comp (.washing booking plan .C .active)) ∧
      (CompState.washing booking plan .C .active).holder = some .C) ∧
    ((∀ k c, arrived.compAt k = some c → c.st.holder ≠ some .F) ∧
      (yard (some .C) (comp .arrived) []).tankerAt 0 = some (tanker (some .C)) ∧
      (∀ t k, arrived.tankerAt t = some k → k.docked ≠ some .F)) ∧
    (arrived.armPort 0 = some .F ∧ ∀ a, arrived.armPort a ≠ some .B) :=
  ⟨⟨admits_office rfl, by decide, by decide, by decide⟩, by decide +kernel,
    ⟨fun k c h => by obtain ⟨-, rfl⟩ := yard_comp h; decide, by decide +kernel,
      fun t k h => by obtain ⟨-, rfl⟩ := yard_tanker h; decide⟩, by decide +kernel⟩

theorem witness_AccessMapAndReplyLimit :
    arrived.admits .A .setAccessMap ∧ (List.replicate 16 (0xFF : Byte)).length = 16 ∧
    ((0x41#8).toNat < 0x42 ∧ 0x46 < (0x47#8).toNat) ∧ (List.replicate 15 (0 : Byte)).length ≠ 16 ∧
    arrived.admits .E .setReplyLimit ∧
    (95 = 256 * (0x00#8).toNat + (0x5F#8).toNat ∧ 241 = 256 * (0x00#8).toNat + (0xF1#8).toNat) :=
  ⟨admits_office rfl, rfl, by decide, by decide, yard_admits _ _ _ rfl, by decide⟩

/-- The unlocked yard: lines 15 and 16 for ANALOG, a mode that does not suit, a depth that does not, a running bay's line, a
taken instance, and a free line. -/
def unlocked (c : Comp) : State := { yard (some .C) c [] with lock := false }

theorem witness_ConfigureLineChecksAndReplaces :
    (∀ c, (unlocked c).admits .A .configureLine ∧ (unlocked c).bindingsAgree ∧ (unlocked c).lock = false) ∧
    arrived.lock = true ∧ ((15 : LineNo).val < 16 ∧ 16 ≤ (16 : LineNo).val) ∧
    (Func.alarm ≠ .washEnable .A ∧ Func.alarm ≠ .rinseProbe .A ∧ modeSuits .input .alarm = false ∧
      modeSuits .outputOpen .alarm = true ∧ modeSuits .analog (.rinseProbe .B) = true) ∧
    (((unlocked (comp (.washing booking plan .C .active))).line 14).func = some (.washEnable .C) ∧
      (unlocked (comp (.washing booking plan .C .active))).washEnableDemand .C = true ∧
      (unlocked (comp .arrived)).washEnableDemand .C = false) ∧
    (((unlocked (comp .arrived)).line 20).func = some .alarm ∧ ((unlocked (comp .arrived)).line 2).func = none ∧
      (2 : LineNo) ≠ 20) ∧
    ∀ m : LineNo, ((unlocked (comp .arrived)).line m).func ≠ some (.rinseProbe .B) :=
  ⟨fun c => ⟨⟨rfl, rfl⟩, bindings_of (s := office) office_func (by
      intro p hp
      exact office_bindings.2 p), rfl⟩, rfl, by decide, by decide, by decide +kernel, by decide +kernel,
    fun l => office_no_probe l .B⟩

theorem witness_LockSetAndCalibrate :
    (office.admits .A .lockLines ∧ office.admits .A .setLine ∧ office.admits .A .setProbeCalibration) ∧
    (24 ≤ (0x18#8).toNat ∧ (0x17#8).toNat < 24 ∧ 2 ≤ (0x02#8).toNat ∧ (0x01#8).toNat < 2) ∧
    ((office.line 2).mode ≠ .outputPushPull ∧ (office.line 2).mode ≠ .outputOpen) ∧
    ((office.line 8).mode = .outputPushPull ∧ (office.line 8).func = some (.permit 0)) ∧
    (((office.setLine 9 { resetLine with mode := .outputOpen }).line 9).mode = .outputOpen ∧
      ((office.setLine 9 { resetLine with mode := .outputOpen }).line 9).func = none) ∧
    (office.probe .E = none ∧ (probed ⟨none, false⟩).probe .E = some ⟨none, false⟩) :=
  ⟨⟨office_admits rfl, office_admits rfl, office_admits rfl⟩, by decide, by decide +kernel, by decide +kernel,
    by decide +kernel, by decide +kernel⟩

theorem office_linesAgree : office.linesAgree := by
  intro l
  have h : ∀ l : LineNo, depthSuits (office.line l).mode (office.line l).depth = true ∧
      ((office.line l).depth = 0 ∨ (office.line l).depth = 2 ∨ (office.line l).depth = 4 ∨ (office.line l).depth = 8) ∧
      (office.line l).func.all (modeSuits (office.line l).mode) = true ∧
      ((office.line l).mode = .analog → 16 ≤ l.val) ∧
      ((office.line l).mode = .inputFiltered → (office.line l).run < (office.line l).depth) ∧
      (office.line l).raw = none := by decide +kernel
  obtain ⟨h1, h2, h3, h4, h5, h6⟩ := h l
  refine ⟨h1, h2, fun f hf => ?_, h4, h5, fun raw hr => ?_⟩
  · simpa [hf] using h3
  · rw [h6] at hr
    cases hr

theorem witness_StatusAndLinesAreRead :
    office.admits .B .readStatus ∧ office.admits .E .readLines ∧ office.linesAgree :=
  ⟨office_admits rfl, office_admits rfl, office_linesAgree⟩

theorem witness_CompartmentRecordIsRead :
    (∀ st, (yard none (comp st) []).admits .C .readCompartment ∧ (yard none (comp st) []).tablesAgree ∧
      (yard none (comp st) []).names 2718 1 (found none (comp st))) ∧
    (plan.steps[plan.index - 1]? = some rinse ∧ { plan with steps := [] }.steps[plan.index - 1]? = none) :=
  ⟨fun _ => ⟨yard_admits _ _ _ rfl, yard_tables _ _ rfl rfl, yard_names _ _ rfl rfl⟩, rfl, rfl⟩

theorem witness_RecordsAndQueueAreRead :
    (queued.admits .A .readRecords ∧ 1 ≤ 192 ∧ 192 ≤ 192) ∧
    (queued.admits .A .readQueue ∧ 0 = 256 * (0x00#8).toNat + (0x00#8).toNat ∧
      193 = 256 * (0x00#8).toNat + (0xC1#8).toNat ∧ 192 = 256 * (0x00#8).toNat + (0xC0#8).toNat) ∧
    (([(entry, found none (comp (.queued booking plan)), booking, plan)] : List (Entry × Found × Booking × Plan)).map (·.1)
        = (queued.queue.drop (1 - 1)).take (((queued.port .A).limit - 5) / 6) ∧
      queued.find entry.tag entry.index = some (found none (comp (.queued booking plan)))) :=
  ⟨⟨admits_office rfl, by decide, by decide⟩, ⟨admits_office rfl, by decide⟩, by decide +kernel,
    yard_find _ _ _ rfl rfl⟩

/-! ### Witnesses: the invariants -/

theorem reset_compAt (k : Slot) : State.reset.compAt k = none := by
  simp [State.compAt, State.reset, resetComps]

/-- A state with a command in its queue in which every premise of the invariants holds: a fill in progress on a yard with
a queue of one command. -/
def busy : State := { (filling fill noHalts).driveLatches with pending := [.fillResume .F adr] }

theorem plan_ranges {a s m : Nat} (ha : a ≤ 7200) (hs : s ≤ 60) (hm : m ≤ 3) :
    ({ plan with active := a, silence := s, mismatch := m } : Plan).rangesAgree :=
  ⟨show plan.level ≤ 6 by decide, show plan.steps.length ≤ 6 by decide, show plan.level = 0 ↔ plan.steps = [] by decide,
    show 1 ≤ plan.index ∧ plan.index ≤ max plan.steps.length 1 by decide,
    by simp [plan, rinse, steamStep, WashStep.legal], ha, hs, hm⟩

theorem comp_ranges {st : CompState} (hp : ∀ pl, st.plan = some pl → pl.rangesAgree)
    (hr : ∀ r, st.release = some r → r.performed ≤ 6 ∧ r.conductivity ≤ 20000 ∧
      (1 ≤ r.closureTag ∧ r.closureTag ≤ 999999) ∧ (1 ≤ r.remaining ∧ r.remaining ≤ 172800))
    (hq : st.loadedPart = none) : (comp st).rangesAgree :=
  ⟨by simp [comp], by simp [comp], hp, fun _ h => (by cases h), hr, fun q h => by
    rw [show (comp st).st.loadedPart = none from hq] at h; cases h⟩

theorem yard_probes (d : Option Port) (c : Comp) (q : List Entry) : (yard d c q).probesAgree :=
  ⟨show 1 ≤ office.scale ∧ office.scale ≤ 1023 by decide, show -2000 ≤ office.offset ∧ office.offset ≤ 2000 by decide,
    fun p x r h => by cases p <;> cases h⟩

/-- A compartment booked, if it is, for the product of the example, and that last held product 310. -/
theorem yard_references (d : Option Port) (st : CompState) (q : List Entry) (h : ∀ b, st.booking = some b → b = booking) :
    (yard d (comp st) q).referencesHold := by
  intro k c hc
  obtain ⟨-, rfl⟩ := yard_comp hc
  refine ⟨fun l e => ?_, fun b e => ?_⟩
  · cases e
    exact ⟨⟨310, 4, false, 3, 97⟩, rfl, rfl⟩
  · cases h b e
    exact ⟨⟨4100, 6, false, 0, 96⟩, rfl, rfl⟩

/-- A fill one litre below its limit. -/
theorem filling_bounds : (filling { fill with delivered := 7289 } noHalts).boundsAgree := by
  intro k c h
  obtain ⟨-, rfl⟩ := yard_comp h
  refine ⟨comp_ranges (fun pl e => ?_) (fun r e => ?_) rfl,
    ⟨fun _ _ e => (by cases e), fun _ _ _ _ e => (by cases e)⟩, fun f h e => ?_, fun e => (by cases e)⟩
  · cases e
    exact plan_ranges (by decide) (by decide) (by decide)
  · cases e
    decide
  · cases e
    decide

theorem washing_bounds : (yard (some .C) edge []).boundsAgree := by
  intro k c h
  obtain ⟨-, rfl⟩ := yard_comp h
  refine ⟨comp_ranges (fun pl e => ?_) (fun r e => (by cases e)) rfl,
    ⟨fun _ _ e => (by cases e), fun _ _ _ _ e => ?_⟩, fun f h e => (by cases e),
    fun _ => ⟨fun _ _ _ st e h => ?_, fun _ _ _ e => (by cases e)⟩⟩
  · cases e
    exact plan_ranges (by decide) (by decide) (by decide)
  · cases e
    refine ⟨by decide, fun e => (by cases e), fun _ => ⟨by decide, by decide, fun st e => ?_⟩⟩
    cases e
    decide
  · cases e
    cases h
    decide

theorem witness_StepKeepsTablesAndRecords :
    (filling fill noHalts).tablesAgree ∧ (filling fill noHalts).recordsAgree ∧
    ((filling { fill with delivered := 7289 } noHalts).boundsAgree ∧
      (yard (some .C) edge []).boundsAgree) ∧
    ((filling fill noHalts).plannerAgrees ∧ (filling fill noHalts).probesAgree ∧ (filling fill noHalts).referencesHold ∧
      ∀ (k : Slot) (c : Comp), (filling fill noHalts).compAt k = some c → c.targetsAgree) ∧
    ∃ t, step { filling fill noHalts with pending := [.yardClockAdvance] } = .next t := by
  refine ⟨yard_tables _ _ rfl rfl, fun k c h => ?_, ⟨filling_bounds, washing_bounds⟩,
    ⟨yard_planner _ _ _, yard_probes _ _ _, yard_references _ _ _ fun b e => (by cases e; rfl), fun k c h => ?_⟩, _, rfl⟩
  · obtain ⟨-, rfl⟩ := yard_comp h
    refine ⟨⟨by decide, by simp [comp, fillingSt]⟩, fun h => (by cases h), ⟨fun _ _ _ h => (by cases h), ?_⟩, ?_, ?_⟩
    · intro b pl h r f hs e
      cases e
      rfl
    · intro pl e
      cases e
      decide
    · intro f h e
      cases e
      decide
  · obtain ⟨-, rfl⟩ := yard_comp h
    refine ⟨fun b r e1 e2 => ?_, fun b f h e1 e2 => ?_⟩
    · cases e1
      cases e2
      rfl
    · cases e1
      cases e2
      rfl

theorem witness_StepKeepsTheQueue :
    arrived.tablesAgree ∧ arrived.queueAgrees ∧ arrived.urgentFirst ∧
    ∃ t, step { arrived with pending := [.book .A (adr ++ argBytes [(2, 4100), (1, 2)])] } = .next t :=
  ⟨yard_tables _ _ rfl rfl, yard_queueAgrees rfl rfl fun _ _ h => (by cases h),
    by simp [State.urgentFirst, arrived, yard, State.setComp, State.setTanker], _, rfl⟩

theorem driven_follow (s : State) (h1 : ∀ l, (s.driveLatches.line l) = s.follow (s.line l))
    (h2 : ∀ f, s.driveLatches.demand f = s.demand f) : s.driveLatches.latchesFollow := by
  intro l f d hf hd
  rw [h1] at hf ⊢
  rw [h2] at hd
  cases hl : (s.line l).func with
  | none => simp [State.follow, hl] at hf
  | some g =>
    cases hg : s.demand g with
    | none =>
      have : f = g := by simpa [State.follow, hl, hg, eq_comm] using hf
      rw [this, hg] at hd
      cases hd
    | some e =>
      have : f = g := by simpa [State.follow, hl, hg, eq_comm] using hf
      rw [this, hg] at hd
      cases hd
      simp [State.follow, hl, hg]

theorem witness_StepKeepsLatchesFollowing :
    busy.tablesAgree ∧ busy.latchesFollow ∧ ∃ t, step busy = .next t :=
  ⟨yard_tables none [] (c := comp (fillingSt fill noHalts)) rfl rfl,
    driven_follow (filling fill noHalts) (fun l => State.line_driveLatches _ l) (fun f => by cases f <;> rfl), _, rfl⟩

theorem office_portsAgree : office.portsAgree := witness_ReplyFitsLimit.2.1

theorem witness_StepKeepsLinesAndPorts :
    office.linesAgree ∧ office.bindingsAgree ∧ office.probesAgree ∧ office.portsAgree ∧
    ∃ t, step { office with pending := [.inputSample 2 true] } = .next t :=
  ⟨office_linesAgree, office_bindings, yard_probes none (comp .arrived) [], office_portsAgree, _, rfl⟩

theorem witness_StepKeepsHoldsAndDockings :
    (washing .active plan).tablesAgree ∧ (washing .active plan).holdersAgree ∧ (washing .active plan).dockingsAgree ∧
    (washing .active plan).oneFillEach ∧ (washing .active plan).baysHoldTwo ∧
    ∃ t, step { washing .active plan with pending := [.giveBack .C adr] } = .next t := by
  refine ⟨yard_tables _ _ rfl rfl, fun k c h hc hh => ?_, yard_dockings _ _ _ fun b pl p ph h => ?_, yard_oneFill _ _ _,
    fun p _ => ?_, _, rfl⟩
  · obtain ⟨-, rfl⟩ := yard_comp hc
    cases hh
    decide +kernel
  · cases h
    rfl
  · cases p <;> decide +kernel

theorem witness_StepKeepsPlannerAndReferences :
    released.plannerAgrees ∧ released.referencesHold ∧
    (∀ (k : Slot) (c : Comp), released.compAt k = some c → c.targetsAgree) ∧
    ∃ t, step { released with pending := [.book .A (adr ++ argBytes [(2, 4100), (1, 2)])] } = .next t := by
  refine ⟨yard_planner _ _ _, yard_references _ _ _ fun b e => (by cases e; rfl), fun k c h => ?_, _, rfl⟩
  · obtain ⟨-, rfl⟩ := yard_comp h
    refine ⟨fun b r e1 e2 => ?_, fun b f h e1 e2 => ?_⟩
    · cases e1
      cases e2
      rfl
    · cases e2

/-- The requests of 11.3 and 11.2 that begin the fill and pass the inspection, as argument bytes. -/
def beginArgs : List Byte := adr ++ argBytes [(1, 1), (2, 4100), (3, 300417)]
def passArgs : List Byte := adr ++ argBytes [(1, 1), (2, 200), (3, 300417)]

/-- A yard whose port has received a frame but for its last byte. -/
def received (s : State) (p : Port) (i : Instr) : State := s.setPort p { s.port p with rx := .payload i.frame.dropLast }

/-- The last byte of a frame. -/
def lastByte (i : Instr) : Byte := i.frame.getLastD 0

/-- A fill that begins, by the request and by the last byte of its frame, and one that goes on. -/
theorem witness_OnlyReleasedCompartmentsFill :
    released.bindingsAgree ∧
    (released.carries (.fillBegin .F beginArgs) .fillBegin .F beginArgs ∧
      record (.fillBegin .F beginArgs) released
        = some (some (comp (fillingSt { fill with delivered := 0 } noHalts)))) ∧
    ((received released .F (.fillBegin .F beginArgs)).carries (.byteReceived .F (lastByte (.fillBegin .F beginArgs)))
        .fillBegin .F beginArgs ∧
      record (.byteReceived .F (lastByte (.fillBegin .F beginArgs))) (received released .F (.fillBegin .F beginArgs))
        = some (some (comp (fillingSt { fill with delivered := 0 } noHalts)))) ∧
    released.names 2718 1 (found none (comp (.released booking plan release))) ∧
    record (.fillVolume .F (adr ++ argBytes [(4, 4000)])) (filling fill noHalts)
      = some (some (comp (fillingSt { fill with delivered := 4000 } noHalts))) :=
  ⟨yard_bindings _ _ _, ⟨.inl rfl, by decide +kernel⟩,
    ⟨.inr ⟨_, _, crc8 [0xD0, 0, 9], rfl, by rw [received, State.port_setPort_self], by decide +kernel⟩,
      by decide +kernel⟩, yard_names _ _ rfl rfl, by decide +kernel⟩

/-- A pass that releases, by the request and by the last byte of its frame, and a release that stays. -/
theorem witness_OnlyAPassReleases :
    ((inspecting 1 plan).carries (.inspectResult .E passArgs) .inspectResult .E passArgs ∧
      record (.inspectResult .E passArgs) (inspecting 1 plan)
        = some (some { comp (.released booking plan ⟨4100, 3, true, 200, 300417, 200000, 43200, false⟩)
          with faults := 1, performed := 3, reading := some ⟨200, .reported⟩ })) ∧
    (seen (fun t => (t.compAt 0).any fun c => stateCode c.st == 6)
      (exec (.byteReceived .E (lastByte (.inspectResult .E passArgs)))
        (received (inspecting 1 plan) .E (.inspectResult .E passArgs))) = some true) ∧
    record (.readStatus .A 0 0) released = some (some (comp (.released booking plan release))) :=
  ⟨⟨.inl rfl, by decide +kernel⟩, by decide +kernel, by decide +kernel⟩

end Sys2Proof.Tests
end

