-- ==== Sys2Proof/Proofs/NextWork.lean ====
section
/-! PROOF. NEXT WORK: which entry a bay is handed, what the hand-out changes, and the replies FULL and EMPTY (R55 to R58). -/

namespace Sys2Proof.Machine

variable {s : State} {p : Port}

/-! ### Which entry is eligible (R56) -/

theorem Caps.within_iff {needs has : Caps} : needs.within has = true ↔
    (needs.steam = true → has.steam = true) ∧ (needs.solvent = true → has.solvent = true) ∧
      (needs.food = true → has.food = true) := by
  simp only [Caps.within, Bool.and_eq_true, Bool.or_eq_true, Bool.not_eq_true', ← Bool.not_eq_true, ← imp_iff_not_or,
    and_assoc]

/-- The record that an address finds carries that address (R2). -/
theorem State.find_entry (hu : s.tablesAgree) {e : Entry} {f : Found} (h : s.find e.tag e.index = some f) :
    f.comp.entry = e := by
  obtain ⟨hfind, ⟨h1, hcount⟩, hslot, hcomp⟩ := State.find_some h
  obtain ⟨htanker, htag⟩ := State.findTanker_some hfind
  obtain ⟨-, hoccupied, -⟩ := hu
  obtain ⟨-, ⟨-, h6⟩, hrecords⟩ := hoccupied f.tslot f.tanker htanker
  obtain ⟨c, hc, hctag, hcindex⟩ := (hrecords ⟨e.index - 1, by omega⟩).1 (by simp only; omega)
  rw [Nat.sub_add_cancel h1] at hc hcindex
  obtain rfl : c = f.comp := Option.some.inj (hc.symm.trans (hslot ▸ hcomp))
  rw [Comp.entry, hctag, hcindex, htag]

/-- The tanker of a record found stands in the slot found. -/
theorem State.find_tankerAt {tag index : Nat} {f : Found} (h : s.find tag index = some f) :
    s.tankerAt f.tslot = some f.tanker :=
  (State.findTanker_some (State.find_some h).1).1

/-- The docking test of the queue walk: the tanker found docked to the bay, or an undocked one for an undocked bay. -/
def Found.suitsDock (f : Found) : Option (TankerSlot × Tanker) → Prop
  | some (t, _) => f.tslot = t
  | none => f.tanker.docked = none

/-- Everything the walk asks of an entry. -/
theorem State.eligible_eq_some {dock : Option (TankerSlot × Tanker)} {e : Entry} {w : Work} :
    s.eligible p dock e = some w ↔
      s.find e.tag e.index = some w.found ∧ w.found.comp.st = .queued w.booking w.plan ∧
        w.found.suitsDock dock ∧ w.plan.needs.within (s.capsOf p) = true := by
  obtain ⟨f, b, pl⟩ := w
  rw [State.eligible]
  cases hfind : s.find e.tag e.index with
  | none => simp
  | some g =>
    simp only [Option.some.injEq]
    split
    next c ql hst =>
      cases dock <;> simp [Found.suitsDock] <;> grind
    next hst =>
      simp only [reduceCtorEq, false_iff, not_and]
      rintro rfl hqueued
      exact absurd hqueued (hst b pl)

/-- The docking test, by the tanker found docked, is that of R56. -/
theorem State.suitsDock_dockedTanker_iff (hd : s.dockingsAgree) {f : Found} (hf : s.tankerAt f.tslot = some f.tanker) :
    f.suitsDock (s.dockedTanker p) ↔ f.tanker.docked = some p ∨
      (f.tanker.docked = none ∧ ∀ t k, s.tankerAt t = some k → k.docked ≠ some p) := by
  cases hdock : s.dockedTanker p with
  | none =>
    have hnone := State.dockedTanker_eq_none.1 hdock
    simp only [Found.suitsDock, hnone _ _ hf, false_or]
    exact ⟨fun h => ⟨h, hnone⟩, And.left⟩
  | some x =>
    obtain ⟨t, k⟩ := x
    obtain ⟨hk, hkp⟩ := State.dockedTanker_some hdock
    constructor
    · rintro (rfl : f.tslot = t)
      exact .inl (Option.some.inj (hf.symm.trans hk) ▸ hkp)
    · rintro (hp | ⟨-, hundocked⟩)
      · exact hd.1 f.tslot t f.tanker k p hf hk hp hkp
      · exact absurd hkp (hundocked t k hk)

/-- The queue walk offers a bay exactly the work that R56 lets it hand out. -/
theorem State.eligible_eq_some_iff (hd : s.dockingsAgree) {e : Entry} {w : Work} :
    s.eligible p (s.dockedTanker p) e = some w ↔ s.mayHandOut p e w.found w.booking w.plan := by
  rw [State.eligible_eq_some, State.mayHandOut, Caps.within_iff]
  refine and_congr_right fun hfind => and_congr_right fun _ => and_congr_left' ?_
  exact State.suitsDock_dockedTanker_iff hd (State.find_tankerAt hfind)

theorem State.eligible_eq_none_iff (hd : s.dockingsAgree) {e : Entry} :
    s.eligible p (s.dockedTanker p) e = none ↔ ∀ f b pl, ¬ s.mayHandOut p e f b pl := by
  simp only [Option.eq_none_iff_forall_ne_some, ne_eq, State.eligible_eq_some_iff hd]
  exact ⟨fun h f b pl => h ⟨f, b, pl⟩, fun h w => h w.found w.booking w.plan⟩

/-- No entry may be handed out: the walk finds nothing. -/
theorem State.firstWork_eq_none (hd : s.dockingsAgree) (h : ∀ x ∈ s.queue, ∀ f b pl, ¬ s.mayHandOut p x f b pl) :
    s.firstWork p (s.dockedTanker p) = none :=
  List.findSome?_eq_none_iff.2 fun x hx => (State.eligible_eq_none_iff hd).2 (h x hx)

/-- The walk finds the first entry that may be handed out, in queue order. -/
theorem State.firstWork_eq_some (hd : s.dockingsAgree) {pre post : List Entry} {e : Entry} {w : Work}
    (hq : s.queue = pre ++ e :: post) (hpre : ∀ x ∈ pre, ∀ f b pl, ¬ s.mayHandOut p x f b pl)
    (he : s.mayHandOut p e w.found w.booking w.plan) : s.firstWork p (s.dockedTanker p) = some w :=
  List.findSome?_eq_some_iff.2
    ⟨pre, e, post, hq, (State.eligible_eq_some_iff hd).2 he, fun x hx => (State.eligible_eq_none_iff hd).2 (hpre x hx)⟩

/-! ### The hand-out (R53, R57) -/

/-- The bytes of a hand-out, as the sizes of R186 give them. -/
theorem workBytes_eq_argBytes (w : Work) :
    workBytes w = argBytes [(2, w.found.comp.tag), (1, w.found.comp.index), (1, w.plan.level),
        (1, w.plan.steps.length), (1, w.plan.index), (2, w.plan.dose), (2, w.plan.active),
        (1, priorityCode w.booking.priority)] ++ w.plan.steps.flatMap stepArgs := by
  have hstep : stepBytes = stepArgs := by
    funext st
    simp [stepBytes, stepArgs]
  simp [workBytes, hstep]

/-- Docked or not before, the bay is docked to the tanker of what it is handed; for a docked bay that is no change. -/
theorem State.handOut_eq (hd : s.dockingsAgree) {e : Entry} {w : Work}
    (he : s.mayHandOut p e w.found w.booking w.plan) :
    s.handOut p (s.dockedTanker p).isSome w =
      ((s.dequeue w.found.comp.entry).setComp w.found.slot
        (w.found.comp.withSt (.washing w.booking w.plan p .between))).setTanker w.found.tslot
          (some { w.found.tanker with docked := some p }) := by
  obtain ⟨hfind, -, hdock, -⟩ := he
  have htanker := State.find_tankerAt hfind
  obtain hp | ⟨-, hundocked⟩ := hdock
  · rw [State.dockedTanker_of_docked hd htanker hp, ← hp]
    exact (State.setTanker_tankerAt ((s.dequeue _).setComp _ _) htanker).symm
  · rw [State.dockedTanker_eq_none.2 hundocked]
    rfl

/-- Taking an entry out of a queue that holds it once leaves the entries before and after it. -/
theorem filter_ne_of_nodup {pre post : List Entry} {e : Entry} (h : (pre ++ e :: post).Nodup) :
    (pre ++ e :: post).filter (fun x => x != e) = pre ++ post := by
  rw [← List.Nodup.erase_eq_filter h]
  obtain ⟨he, -⟩ := List.nodup_cons.1 (List.nodup_middle.1 h)
  rw [List.erase_append_right _ fun hm => he (List.mem_append_left _ hm), List.erase_cons_head]

/-! ### The request -/

theorem exec_nextWork_of_admits (b1 b2 : Byte) (h : s.admits p .nextWork) :
    exec (.nextWork p b1 b2) s = .next ((nextWork p s).1.reply p 0x30 (nextWork p s).2) :=
  congrArg Host.Outcome.next (State.serve_of_admits (nextWork p) h)

theorem nextWork_of_full (h : 2 ≤ (s.heldBy p).length) : nextWork p s = (s, ⟨.full, 2, []⟩) :=
  if_pos h

theorem nextWork_of_work (h : (s.heldBy p).length < 2) {w : Work} (hw : s.firstWork p (s.dockedTanker p) = some w) :
    nextWork p s = (s.handOut p (s.dockedTanker p).isSome w, okWith (workBytes w)) := by
  have hroom : ¬ Config.bayHolds ≤ (s.heldBy p).length := Nat.not_le.2 h
  rw [nextWork, if_neg hroom, hw]

theorem nextWork_of_none (h : (s.heldBy p).length < 2) (hw : s.firstWork p (s.dockedTanker p) = none) :
    nextWork p s = (s, ⟨.empty, emptyDetail s (s.dockedTanker p).isSome,
      beBytes 2 ((s.dockedTanker p).elim 0 fun x => x.2.tag)⟩) := by
  have hroom : ¬ Config.bayHolds ≤ (s.heldBy p).length := Nat.not_le.2 h
  rw [nextWork, if_neg hroom, hw]
  cases s.dockedTanker p <;> rfl

/-- Settles O35: the queue walk finds the first entry that R56 lets the bay take (`State.firstWork_eq_some`), the hand-out is
one update of queue, record and tanker (`State.handOut_eq`), and a walk that finds nothing is EMPTY with the docked tag. -/
theorem nextWorkHandsOutTheFirstEligible : Obligations.NextWorkHandsOutTheFirstEligible := by
  intro s p b1 b2 hadmits
  rw [exec_nextWork_of_admits b1 b2 hadmits]
  refine ⟨fun hfull => by rw [nextWork_of_full hfull], ?_, ?_⟩
  · intro pre e post f b pl hroom htables hdock hnodup hq hpre he
    have hentry : f.comp.entry = e := State.find_entry htables he.1
    have hwork := State.firstWork_eq_some (w := ⟨f, b, pl⟩) hdock hq hpre he
    have hout := State.handOut_eq (w := ⟨f, b, pl⟩) hdock he
    rw [nextWork_of_work hroom hwork, workBytes_eq_argBytes]
    refine ⟨s.handOut p (s.dockedTanker p).isSome ⟨f, b, pl⟩, by subst hentry; rfl, ?_⟩
    rw [hout, hentry]
    refine ⟨?_, fun k => ?_, fun u => State.tankerAt_setTanker .., rfl⟩
    · exact (congrArg _ hq).trans (filter_ne_of_nodup (hq ▸ hnodup))
    · exact State.compAt_setComp ..
  · intro hroom hdock hnone
    rw [nextWork_of_none hroom (State.firstWork_eq_none hdock hnone)]
    refine ⟨fun t k hk hp => ?_, fun hundocked => ?_⟩
    · rw [State.dockedTanker_of_docked hdock hk hp]
      simp [emptyDetail]
    · rw [State.dockedTanker_eq_none.2 hundocked]
      simp [emptyDetail]

end Sys2Proof.Machine
end

section
/-! PROOF. FILL BEGIN: its own checks in their order, and the fill that is accepted (R109 to R116). -/

namespace Sys2Proof.Machine

variable {s : State} {p : Port} {a : Arm} {f : Found} {b : Booking} {pl : Plan} {r : Release}
  {tag index product ctag : Nat}

/-! ### Whether the arm is equipped (R109) -/

theorem State.notEquipped_of_not_mapped (h : s.armPort a ≠ some p) : s.notEquipped a p = some 1 :=
  if_pos h

theorem State.notEquipped_of_no_ground (hp : s.armPort a = some p) (h : ∀ l, (s.line l).func ≠ some (.ground a)) :
    s.notEquipped a p = some 2 := by
  simp [State.notEquipped, hp, State.boundLine_eq_none.2 h]

theorem State.notEquipped_of_no_permit (hb : s.bindingsAgree) (hp : s.armPort a = some p) {g : LineNo}
    (hg : (s.line g).func = some (.ground a)) (h : ∀ l, (s.line l).func ≠ some (.permit a)) :
    s.notEquipped a p = some 3 := by
  simp [State.notEquipped, hp, State.boundLine_of_func hb hg, State.boundLine_eq_none.2 h]

/-- A mapped arm with both its lines lacks at most the lock. -/
theorem State.notEquipped_of_lines (hb : s.bindingsAgree) (hp : s.armPort a = some p) {g m : LineNo}
    (hg : (s.line g).func = some (.ground a)) (hm : (s.line m).func = some (.permit a)) :
    s.notEquipped a p = if s.lock then none else some 4 := by
  simp [State.notEquipped, hp, State.boundLine_of_func hb hg, State.boundLine_of_func hb hm, apply_ite]

/-! ### Whether the arm is known to be dry (R114) -/

theorem State.notDry_iff (hb : s.bindingsAgree) :
    s.notDry a = true ↔ ∃ o, (s.line o).func = some (.overfill a) ∧ (s.line o).level ≠ .inactive := by
  constructor
  · intro h
    cases ho : s.boundLine (.overfill a) with
    | none => simp [State.notDry, State.boundLevel, ho] at h
    | some o => exact ⟨o, State.boundLine_some ho, by simpa [State.notDry, State.boundLevel, ho] using h⟩
  · rintro ⟨o, ho, hlevel⟩
    simpa [State.notDry, State.boundLevel_of_func hb ho] using hlevel

/-! ### The checks of a RELEASED compartment (R112 to R115) -/

theorem fillReleased_of_wrong_product (h : product ≠ r.target) :
    fillReleased f b pl r p a product ctag s = (s, ⟨.productMismatch, 0, []⟩) :=
  if_pos h

theorem fillReleased_of_wrong_tag (hp : product = r.target) (h : ctag ≠ r.closureTag) :
    fillReleased f b pl r p a product ctag s = tagMismatch f b pl p a s := by
  simp [fillReleased, hp, h]

/-- With product and closure tag right, the arm's lines decide. -/
theorem fillReleased_of_tags (hp : product = r.target) (hc : ctag = r.closureTag) {lv : Level}
    (hg : s.boundLevel (.ground a) = some lv) :
    fillReleased f b pl r p a product ctag s =
      if lv ≠ .active then (s, ⟨.unbonded, a.val + 1, []⟩)
      else if s.notDry a then (s, ⟨.overfill, a.val + 1, []⟩)
      else startFill f b pl r p a product s := by
  simp [fillReleased, hp, hc, hg, refuse, armNumber]

/-- The fill record begins with nothing delivered and the limit of R116. -/
theorem startFill_of_product {e : Product} (he : s.product? product = some e) :
    startFill f b pl r p a product s =
      ((s.setComp f.slot { f.comp with
          st := .filling b pl p { r with frozen := true }
            ⟨a, product, f.comp.capacity * e.fillPercent / 100 / 10 * 10, 0⟩ ⟨false, false, false⟩ }).driveLatches,
        ⟨.ok, 0, argBytes [(1, a.val + 1), (2, product), (2, f.comp.capacity * e.fillPercent / 100 / 10 * 10), (2, 0),
          (3, r.remaining)]⟩) := by
  simp [startFill, State.newFill, State.fillPercent, he, fillLimit, okWith, armNumber, Comp.withSt, noHalts]

/-! ### The request -/

theorem exec_fillBegin_of_admits (h : s.admits p .fillBegin) (ht : 1 ≤ tag ∧ tag ≤ 65535)
    (hi : 1 ≤ index ∧ index ≤ 6) (hp : 1 ≤ product ∧ product ≤ 9999) (hc : 1 ≤ ctag ∧ ctag ≤ 999999) :
    exec (.fillBegin p (addressBytes tag index ++ argBytes [(1, a.val + 1), (2, product), (3, ctag)])) s =
      .next ((fillBegin p tag index a product ctag s).1.reply p 0x50 (fillBegin p tag index a product ctag s).2) := by
  have hargs := checkLong_fillBeginFields ht hi (arm := a.val + 1) ⟨by omega, a.isLt⟩ hp hc
  refine congrArg Host.Outcome.next ((State.serve_of_admits _ h).trans ?_)
  simp only [hargs, withArgs_ok]
  simp [arg, ReqName.code]

section Checks

/-! A compartment found that has no holder: the first of FILL BEGIN's own checks that fails answers. -/

variable (hf : s.find tag index = some f) (hn : f.comp.st.holder = none)
include hf hn

theorem fillBegin_of_notEquipped {d : Nat} (he : s.notEquipped a p = some d) :
    fillBegin p tag index a product ctag s = (s, ⟨.notEquipped, d, []⟩) := by
  simp [fillBegin, State.withComp_of_find _ hf, needsNoHolder_of_none _ hn, he, refuse]

theorem fillBegin_of_busy (he : s.notEquipped a p = none) {k : Slot} {c : Comp} (ho : s.fillOn a = some (k, c)) :
    fillBegin p tag index a product ctag s = (s, ⟨.busy, c.index, beBytes 2 c.tag⟩) := by
  simp [fillBegin, State.withComp_of_find _ hf, needsNoHolder_of_none _ hn, he, ho]

theorem fillBegin_of_not_released (he : s.notEquipped a p = none) (ho : s.fillOn a = none)
    (hst : stateCode f.comp.st ≠ 6) :
    fillBegin p tag index a product ctag s = (s, ⟨.state, stateCode f.comp.st, []⟩) := by
  rw [fillBegin, State.withComp_of_find _ hf, needsNoHolder_of_none _ hn, he, ho]
  dsimp only
  split
  next hreleased => exact absurd (by rw [hreleased]; rfl) hst
  next => rfl

theorem fillBegin_of_released (he : s.notEquipped a p = none) (ho : s.fillOn a = none)
    (hst : f.comp.st = .released b pl r) :
    fillBegin p tag index a product ctag s = fillReleased f b pl r p a product ctag s := by
  simp [fillBegin, State.withComp_of_find _ hf, needsNoHolder_of_none _ hn, he, ho, hst]

end Checks

/-- Settles O42: the arm's four conditions, the fill on it, the state, product, closure tag and the two lines are tested in
that order, each where all before it pass, and `startFill_of_product` is the fill that passes them all. -/
theorem fillBeginChecksAndStarts : Obligations.FillBeginChecksAndStarts := by
  intro s p tag index product ctag a f payload hadmits ⟨ht, hi, hf⟩ hb hone hn hp1 hp2 hc1 hc2 hpayload
  rw [hpayload, exec_fillBegin_of_admits hadmits ht hi ⟨hp1, hp2⟩ ⟨hc1, hc2⟩]
  refine ⟨fun hp => ?_, fun hp hg => ?_, fun g hp hg => ⟨fun hm => ?_, fun m hm => ?_⟩⟩
  · rw [fillBegin_of_notEquipped hf hn (State.notEquipped_of_not_mapped hp)]
  · rw [fillBegin_of_notEquipped hf hn (State.notEquipped_of_no_ground hp hg)]
  · rw [fillBegin_of_notEquipped hf hn (State.notEquipped_of_no_permit hb hp hg hm)]
  have hlines := State.notEquipped_of_lines hb hp hg hm
  refine ⟨fun hlock => ?_, fun hlock => ?_⟩
  · rw [fillBegin_of_notEquipped hf hn (hlines.trans (if_neg (by simp [hlock])))]
  have hequipped : s.notEquipped a p = none := hlines.trans (if_pos hlock)
  refine ⟨fun k c fl h hk hfill harm => ?_, fun hfree => ?_⟩
  · rw [fillBegin_of_busy hf hn hequipped (State.fillOn_of_fill hone hk hfill harm)]
  have hidle : s.fillOn a = none := State.fillOn_eq_none.2 hfree
  refine ⟨fun hst => ?_, fun b pl r hst => ?_⟩
  · rw [fillBegin_of_not_released hf hn hequipped hidle hst]
  have hground := State.boundLevel_of_func hb hg
  rw [fillBegin_of_released hf hn hequipped hidle hst]
  refine ⟨fun hp => ?_, fun hp hc => ?_, fun hp hc hlevel => ?_, fun o hp hc hlevel ho hwet => ?_,
    fun e limit hp hc hlevel hdry he hlimit => ?_⟩
  · rw [fillReleased_of_wrong_product hp]
  · rw [fillReleased_of_wrong_tag hp hc]
    rfl
  · rw [fillReleased_of_tags hp hc hground, if_pos hlevel]
  · have hnotDry : s.notDry a = true := (State.notDry_iff hb).2 ⟨o, ho, hwet⟩
    rw [fillReleased_of_tags hp hc hground, if_neg (not_not_intro hlevel), if_pos hnotDry]
  · have hnotDry : ¬ s.notDry a = true := by
      rw [State.notDry_iff hb]
      rintro ⟨o, ho, hwet⟩
      exact hwet (hdry o ho)
    rw [fillReleased_of_tags hp hc hground, if_neg (not_not_intro hlevel), if_neg hnotDry,
      startFill_of_product he, hlimit]

end Sys2Proof.Machine
end

section
/-! PROOF. FIELD LINES: the drive of an output's pin, from its mode, polarity and latch (R148). -/

namespace Sys2Proof.Machine

variable {x : Line}

/-- The four push-pull entries of R148's table in one: the pin is high exactly when polarity and latch agree. -/
theorem Line.drive_of_outputPushPull (h : x.mode = .outputPushPull) :
    x.drive = if (x.polarity = .high ↔ x.latch = true) then .high else .low := by
  rw [Line.drive, h]
  cases x.polarity with
  | high => simp
  | low => cases x.latch <;> simp

/-- An OUTPUT_OPEN line never drives high: where a push-pull line would, it releases the pin. -/
theorem Line.drive_of_outputOpen (h : x.mode = .outputOpen) :
    x.drive = if (x.polarity = .high ↔ x.latch = true) then .released else .low := by
  rw [Line.drive, h]
  cases x.polarity with
  | high => simp
  | low => cases x.latch <;> simp

/-- A line of an input mode leaves its pin undriven (R140). -/
theorem Line.drive_of_not_output (hpush : x.mode ≠ .outputPushPull) (hopen : x.mode ≠ .outputOpen) :
    x.drive = .undriven := by
  rw [Line.drive]
  cases h : x.mode with
  | outputPushPull => exact absurd h hpush
  | outputOpen => exact absurd h hopen
  | input => rfl
  | inputFiltered => rfl
  | analog => rfl

/-- Settles O18: the pin has the drive of its line, which the three lemmas above give mode by mode. -/
theorem outputDrivesItsPin : Obligations.OutputDrivesItsPin :=
  fun _ _ => ⟨Line.drive_of_outputPushPull, Line.drive_of_outputOpen, Line.drive_of_not_output⟩

end Sys2Proof.Machine
end

section
/-! PROOF. The statements of requests, reads and tables, and what every step keeps. -/

-- One theorem at a time: each waiting thread reserves a whole stack of the memory the check allows.
set_option Elab.async false

section
/-! PROOF. Requests: every request command is one taking of what its owner makes of it, from the port and from the bytes of
its frame alike (R163, R174, R178, R181, R182). -/

namespace Sys2Proof.Machine

/-- What the owner of a request makes of it once checks 1 and 2 have passed (R163, R164): the state before the reply, and the
answer. `owned_serve` ties it to the model. -/
def State.owned (s : State) (r : ReqName) (p : Port) (args : List Byte) : State × Answer :=
  match r with
  | .readStatus => readStatus p s
  | .readLines => readLines s
  | .setReplyLimit => setReplyLimit p (beValue [args.getD 0 0, args.getD 1 0]) s
  | .readCompartment => withArgs (checkLong addressFields args) s fun vs => readCompartment (arg vs 1) (arg vs 2) s
  | .readRecords =>
    withArgs (checkLong readRecordsFields args) s fun vs => readRecords p (arg vs 1) (arg vs 2) (arg vs 3 == 0) s
  | .readQueue =>
    withArgs (checkShort readQueueFields (args.getD 0 0) (args.getD 1 0)) s fun vs => readQueue p (arg vs 1) s
  | .setTime => withArgs (checkPayload setTimeFields 1 args) s fun vs => setTime (BitVec.ofNat 32 (arg vs 1)) s
  | .defineProduct => withArgs (checkLong defineProductFields args) s fun vs => defineProduct (productOfArgs vs) s
  | .deleteProduct =>
    withArgs (checkShort deleteProductFields (args.getD 0 0) (args.getD 1 0)) s fun vs => deleteProduct (arg vs 1) s
  | .setMatrixRow =>
    withArgs (checkLong setMatrixRowFields args) s fun vs => setMatrixRow (Fin.ofNat 16 (arg vs 1)) (vs.drop 1) s
  | .defineProgram =>
    withArgs (checkPayload (defineProgramFields args.length (programCount args)) 2 args) s fun vs =>
      defineProgram (arg vs 1) (stepsOfArgs (arg vs 2) (vs.drop 2)) s
  | .setClassLimit =>
    withArgs (checkLong setClassLimitFields args) s fun vs =>
      setClassLimit (Fin.ofNat 16 (arg vs 1)) { conductivity := arg vs 2, validityHours := arg vs 3 } s
  | .setPortRole =>
    withArgs (checkLong setPortRoleFields args) s fun vs =>
      setPortRole (portOfArg (arg vs 1)) (roleOfArg (arg vs 2)) (capsOfCode (arg vs 3)) s
  | .setAccessMap =>
    withArgs (checkPayload setAccessMapFields 2 args) s fun vs =>
      setAccessMap (portOfArg (arg vs 1)) (mapOf (arg vs 2)) s
  | .configureLine =>
    withArgs (checkLong configureLineFields args) s fun vs =>
      configureLine (Fin.ofNat 24 (arg vs 1)) (configOfArgs vs) s
  | .lockLines => lockLines s
  | .setLine =>
    withArgs (checkShort setLineFields (args.getD 0 0) (args.getD 1 0)) s fun vs =>
      Machine.setLine (Fin.ofNat 24 (arg vs 1)) (arg vs 2 == 1) s
  | .setProbeCalibration =>
    withArgs (checkLong setProbeCalibrationFields args) s fun vs =>
      setProbeCalibration (arg vs 1) (signedValue (arg vs 2)) s
  | .mapArm =>
    withArgs (checkShort (mapArmFields s) (args.getD 0 0) (args.getD 1 0)) s fun vs =>
      mapArm (armOfNumber (arg vs 1)) (stationPort (arg vs 2)) s
  | .clearYard => clearYard s
  | .registerTanker =>
    match registerArgs args with
    | .error d => (s, refuse .range d)
    | .ok (tag, cs) => registerTanker tag cs s
  | .book =>
    withArgs (checkLong bookFields args) s fun vs =>
      book (arg vs 1) (arg vs 2) (arg vs 3) (priorityOfCode (arg vs 4)) s
  | .revoke => withArgs (checkLong addressFields args) s fun vs => revoke (arg vs 1) (arg vs 2) s
  | .unblock => withArgs (checkLong addressFields args) s fun vs => unblock (arg vs 1) (arg vs 2) s
  | .ackIncident => withArgs (checkLong addressFields args) s fun vs => ackIncident (arg vs 1) (arg vs 2) s
  | .departTanker =>
    withArgs (checkShort departTankerFields (args.getD 0 0) (args.getD 1 0)) s fun vs => departTanker (arg vs 1) s
  | .nextWork => nextWork p s
  | .stepStart =>
    withArgs (checkLong stepStartFields args) s fun vs => stepStart p (arg vs 1) (arg vs 2) (arg vs 3) s
  | .washSample =>
    withArgs (checkLong washSampleFields args) s fun vs => washSample p (arg vs 1) (arg vs 2) (sampleOfArgs vs) s
  | .giveBack => withArgs (checkLong addressFields args) s fun vs => giveBack p (arg vs 1) (arg vs 2) s
  | .undock => undock p s
  | .inspectBegin => withArgs (checkLong addressFields args) s fun vs => inspectBegin p (arg vs 1) (arg vs 2) s
  | .inspectResult =>
    withArgs (checkLong inspectResultFields args) s fun vs =>
      inspectResult p (arg vs 1) (arg vs 2) (arg vs 3 == 1) (arg vs 4) (arg vs 5) s
  | .inspectCancel => withArgs (checkLong addressFields args) s fun vs => inspectCancel p (arg vs 1) (arg vs 2) s
  | .fillBegin =>
    withArgs (checkLong fillBeginFields args) s fun vs =>
      fillBegin p (arg vs 1) (arg vs 2) (armOfNumber (arg vs 3)) (arg vs 4) (arg vs 5) s
  | .fillVolume => withArgs (checkLong fillCountFields args) s fun vs => fillVolume p (arg vs 1) (arg vs 2) (arg vs 3) s
  | .fillResume => withArgs (checkLong addressFields args) s fun vs => fillResume p (arg vs 1) (arg vs 2) s
  | .fillEnd => withArgs (checkLong fillCountFields args) s fun vs => fillEnd p (arg vs 1) (arg vs 2) (arg vs 3) s

/-- A decoded request is served with what its owner makes of it. -/
theorem State.carryOut_eq (s : State) (r : ReqName) (p : Port) (args : List Byte) :
    s.carryOut r p args = s.serve r p fun u => u.owned r p args := by
  cases r <;> rfl

/-- A request command is carried out as the frame that carries the request is. -/
theorem exec_command (s : State) (r : ReqName) (p : Port) (args : List Byte) :
    exec (r.command p args) s = .next (s.carryOut r p args) := by
  cases r <;> rfl

/-- A request command is the command of its name, port and argument bytes. -/
theorem eq_command_of_request {i : Instr} {r : ReqName} {p : Port} {args : List Byte}
    (h : i.request? = some (r, p, args)) : i = r.command p args := by
  cases i <;> cases h <;> rfl

theorem exec_request {i : Instr} {r : ReqName} {p : Port} {args : List Byte} (s : State)
    (h : i.request? = some (r, p, args)) : exec i s = .next (s.carryOut r p args) := by
  rw [eq_command_of_request h, exec_command]

/-- A request that passes checks 1 and 2 is answered by its owner. -/
theorem exec_command_of_admits {s : State} {r : ReqName} {p : Port} (args : List Byte) (h : s.admits p r) :
    exec (r.command p args) s = .next ((s.owned r p args).1.reply p r.code (s.owned r p args).2) := by
  rw [exec_command, State.carryOut_eq, State.serve_of_admits _ h]

/-- Carrying out a request is one reply: its owner's answer in the state its owner leaves, or a refusal by check 1 or 2 in
the state as it was. -/
theorem State.carryOut_cases (s : State) (r : ReqName) (p : Port) (args : List Byte) :
    (s.admits p r ∧ s.carryOut r p args = (s.owned r p args).1.reply p r.code (s.owned r p args).2) ∨
    (¬ s.admits p r ∧
      (s.carryOut r p args = s.reply p r.code (refuse .role 0) ∨
        s.carryOut r p args = s.reply p r.code (refuse .denied 0))) := by
  rw [State.carryOut_eq]
  obtain ⟨hrole, h⟩ | ⟨-, hdenied, h⟩ | ⟨hadmits, h⟩ := State.serve_cases s r p fun u => u.owned r p args
  · exact .inr ⟨fun ha => Bool.false_ne_true (hrole.symm.trans ha.1), .inl h⟩
  · exact .inr ⟨fun ha => Bool.false_ne_true (ha.2.symm.trans hdenied), .inr h⟩
  · exact .inl ⟨hadmits, h⟩

end Sys2Proof.Machine
end

section
/-! PROOF. What a command may do to one compartment record, and the parts of a record each of its updates leaves. -/

namespace Sys2Proof.Machine

variable {s : State} {c c' : Comp}

/-! ### The updates of a record -/

@[simp] theorem Comp.withSt_tag (st : CompState) : (c.withSt st).tag = c.tag := rfl
@[simp] theorem Comp.withSt_index (st : CompState) : (c.withSt st).index = c.index := rfl
@[simp] theorem Comp.withSt_capacity (st : CompState) : (c.withSt st).capacity = c.capacity := rfl
@[simp] theorem Comp.withSt_last (st : CompState) : (c.withSt st).last = c.last := rfl
@[simp] theorem Comp.withSt_performed (st : CompState) : (c.withSt st).performed = c.performed := rfl
@[simp] theorem Comp.withSt_faults (st : CompState) : (c.withSt st).faults = c.faults := rfl
@[simp] theorem Comp.withSt_st (st : CompState) : (c.withSt st).st = st := rfl
@[simp] theorem Comp.withSt_reading (st : CompState) : (c.withSt st).reading = c.reading := rfl
@[simp] theorem Comp.withSt_incident (st : CompState) : (c.withSt st).incident = c.incident := rfl
@[simp] theorem Comp.withSt_overflow (st : CompState) : (c.withSt st).overflow = c.overflow := rfl
@[simp] theorem Comp.withSt_advanceDue (st : CompState) : (c.withSt st).advanceDue = c.advanceDue := rfl

@[simp] theorem Comp.settled_tag : c.settled.tag = c.tag := rfl
@[simp] theorem Comp.settled_index : c.settled.index = c.index := rfl
@[simp] theorem Comp.settled_capacity : c.settled.capacity = c.capacity := rfl
@[simp] theorem Comp.settled_last : c.settled.last = c.last := rfl
@[simp] theorem Comp.settled_performed : c.settled.performed = c.performed := rfl
@[simp] theorem Comp.settled_faults : c.settled.faults = c.faults := rfl
@[simp] theorem Comp.settled_st : c.settled.st = c.st := rfl
@[simp] theorem Comp.settled_reading : c.settled.reading = c.reading := rfl
@[simp] theorem Comp.settled_incident : c.settled.incident = c.incident := rfl
@[simp] theorem Comp.settled_overflow : c.settled.overflow = c.overflow := rfl
@[simp] theorem Comp.settled_advanceDue : c.settled.advanceDue = false := rfl

/-- A capture touches the slot and its overflow flag alone (R134). -/
theorem Comp.capture_eq (c : Comp) (i : Incident) :
    c.capture i = { c with incident := some (c.incident.getD i), overflow := c.incident.isSome || c.overflow } := by
  cases h : c.incident <;> simp [Comp.capture, h]

@[simp] theorem Comp.capture_tag (i : Incident) : (c.capture i).tag = c.tag := by rw [Comp.capture_eq]
@[simp] theorem Comp.capture_index (i : Incident) : (c.capture i).index = c.index := by rw [Comp.capture_eq]
@[simp] theorem Comp.capture_capacity (i : Incident) : (c.capture i).capacity = c.capacity := by rw [Comp.capture_eq]
@[simp] theorem Comp.capture_last (i : Incident) : (c.capture i).last = c.last := by rw [Comp.capture_eq]
@[simp] theorem Comp.capture_performed (i : Incident) : (c.capture i).performed = c.performed := by rw [Comp.capture_eq]
@[simp] theorem Comp.capture_faults (i : Incident) : (c.capture i).faults = c.faults := by rw [Comp.capture_eq]
@[simp] theorem Comp.capture_st (i : Incident) : (c.capture i).st = c.st := by rw [Comp.capture_eq]
@[simp] theorem Comp.capture_reading (i : Incident) : (c.capture i).reading = c.reading := by rw [Comp.capture_eq]
@[simp] theorem Comp.capture_advanceDue (i : Incident) : (c.capture i).advanceDue = c.advanceDue := by
  rw [Comp.capture_eq]
@[simp] theorem Comp.capture_incident_isSome (i : Incident) : (c.capture i).incident.isSome = true := by
  rw [Comp.capture_eq]; rfl

/-- All that counting an advance can do to a record (R80, R102). -/
theorem Comp.counted_cases (c : Comp) :
    c.counted = c ∨
    (∃ b pl h, c.st = .washing b pl h .active ∧ c.counted = c.withSt (.washing b pl.ticked h .active)) ∨
    (∃ b pl r, c.st = .released b pl r ∧ r.frozen = false ∧
      c.counted = c.withSt (.released b pl { r with remaining := r.remaining - 1 })) := by
  unfold Comp.counted
  split
  next b pl h hst => exact .inr (.inl ⟨b, pl, h, hst, rfl⟩)
  next b pl r hst =>
    by_cases hr : r.frozen = true
    · exact .inl (if_pos hr)
    · exact .inr (.inr ⟨b, pl, r, hst, Bool.not_eq_true _ ▸ hr, if_neg hr⟩)
  next => exact .inl rfl

/-- Counting an advance changes the state part of the record alone. -/
theorem Comp.counted_eq (c : Comp) : ∃ st, c.counted = c.withSt st := by
  obtain h | ⟨b, pl, h, -, hc⟩ | ⟨b, pl, r, -, -, hc⟩ := c.counted_cases
  · exact ⟨c.st, h⟩
  · exact ⟨_, hc⟩
  · exact ⟨_, hc⟩

@[simp] theorem Comp.counted_tag : c.counted.tag = c.tag := by obtain ⟨st, h⟩ := c.counted_eq; rw [h]; rfl
@[simp] theorem Comp.counted_index : c.counted.index = c.index := by obtain ⟨st, h⟩ := c.counted_eq; rw [h]; rfl
@[simp] theorem Comp.counted_capacity : c.counted.capacity = c.capacity := by obtain ⟨st, h⟩ := c.counted_eq; rw [h]; rfl
@[simp] theorem Comp.counted_last : c.counted.last = c.last := by obtain ⟨st, h⟩ := c.counted_eq; rw [h]; rfl
@[simp] theorem Comp.counted_performed : c.counted.performed = c.performed := by
  obtain ⟨st, h⟩ := c.counted_eq; rw [h]; rfl
@[simp] theorem Comp.counted_faults : c.counted.faults = c.faults := by obtain ⟨st, h⟩ := c.counted_eq; rw [h]; rfl
@[simp] theorem Comp.counted_reading : c.counted.reading = c.reading := by obtain ⟨st, h⟩ := c.counted_eq; rw [h]; rfl
@[simp] theorem Comp.counted_incident : c.counted.incident = c.incident := by obtain ⟨st, h⟩ := c.counted_eq; rw [h]; rfl
@[simp] theorem Comp.counted_overflow : c.counted.overflow = c.overflow := by obtain ⟨st, h⟩ := c.counted_eq; rw [h]; rfl
@[simp] theorem Comp.counted_advanceDue : c.counted.advanceDue = c.advanceDue := by
  obtain ⟨st, h⟩ := c.counted_eq; rw [h]; rfl

/-! ### The moves -/

/-- Which requests are being carried out: a name, a port and the argument bytes. -/
abbrev Taking := ReqName → Port → List Byte → Prop

/-- No request is being carried out: an event of the clock, the lines or the links. -/
def noRequest : Taking := fun _ _ _ => False

/-- The request of this name, port and argument bytes is being carried out. -/
def theRequest (r : ReqName) (p : Port) (args : List Byte) : Taking := fun r' p' args' => r' = r ∧ p' = p ∧ args' = args

/-- A booking a derivation may be made for: the one BOOK brings, with the class of its target (R38), or the one held (R46). -/
def State.mayBook (s : State) (c : Comp) (b : Booking) : Prop :=
  s.targetClass b.target = some b.cls ∨ c.st.booking = some b

/-- The record that BOOK or UNBLOCK plans anew: as it stands, unless it is held, LOADED or BLOCKED(FAULTS) (R38 to R44), or
with its faults cleared, when it is BLOCKED (R46). -/
inductive Replanned (c : Comp) : Comp → Prop
  | booked (hheld : c.st.holder = none) (hloaded : ∀ q, c.st ≠ .loaded q) (hfaults : ∀ b pl, c.st ≠ .blockedFaults b pl) :
      Replanned c c
  | unblocked (hblocked : stateCode c.st = 9) : Replanned c { c with faults := 0 }

/-- A new plan that a derivation asks for (R36). -/
def State.plansAnew (s : State) (c : Comp) (b : Booking) (pl : Plan) : Prop :=
  ∃ n food, 1 ≤ n ∧ s.derive c b.cls food = .level n ∧ s.newPlan n food = some pl

/-- What a WASH SAMPLE of a running step leaves: the state part, and the performed level `n` (R72 to R78). -/
inductive Sampled (b : Booking) (pl : Plan) (h : Port) (performed : Nat) : CompState → Nat → Prop
  | mismatched : Sampled b pl h performed
      (.washing b { pl with silence := 0, mismatch := pl.mismatch + 1 } h
        (if 3 ≤ pl.mismatch + 1 then .stalled .medium else .active)) performed
  | running (dose : Nat) (hdose : dose = pl.dose ∨ dose ≤ 65535) : Sampled b pl h performed
      (.washing b { pl with silence := 0, mismatch := 0, dose := dose } h .active) performed
  | stepDone (food : Bool) (hmore : pl.index < pl.steps.length) : Sampled b pl h performed
      (.washing b (pl.nextStep food) h .between) performed
  | planDone (dose : Nat) (food : Bool) (hdose : dose ≤ 65535) : Sampled b pl h performed
      (.washed b (pl.finished dose food)) pl.level

/-- Everything one command may do to the record in slot `k`, by the part of the manual that does it. Of the requests, only
FILL BEGIN and INSPECT RESULT are named, where they begin a fill and where they release. -/
inductive Move (A : Taking) (s : State) (k : Slot) (c : Comp) : Comp → Prop
  | forbidden {c₀ : Comp} {b : Booking} (hc : Replanned c c₀) (hb : s.mayBook c b) :
      Move A s k c (c₀.withSt (.blockedForbidden b))
  | levelZero {c₀ : Comp} {b : Booking} (food : Bool) (hc : Replanned c c₀) (hb : s.mayBook c b) :
      Move A s k c { c₀ with st := .washed b (zeroPlan c.st.plan food), performed := 0 }
  | planned {c₀ : Comp} {b : Booking} {pl : Plan} (hc : Replanned c c₀) (hb : s.mayBook c b) (hpl : s.plansAnew c b pl) :
      Move A s k c (c₀.withSt (.queued b pl))
  | keptQueued {old b : Booking} {pl : Plan} (food : Bool) (hst : c.st = .queued old pl) (hb : s.mayBook c b) :
      Move A s k c (c.withSt (.queued b (pl.rebooked food)))
  | keptWashed {b : Booking} {pl : Plan} (food : Bool)
      (hst : ∃ old, c.st = .washed old pl ∨ ∃ r, c.st = .released old pl r) (hb : s.mayBook c b) :
      Move A s k c (c.withSt (.washed b (pl.rebooked food)))
  | keptReleased {old b : Booking} {pl : Plan} {r : Release} (food : Bool) (hst : c.st = .released old pl r)
      (hb : s.mayBook c b) :
      Move A s k c (c.withSt (.released b (pl.rebooked food) { r with target := b.target }))
  | bookedBlocked {old b : Booking} {opl npl : Option Plan} (hst : c.st = .blockedFaults old opl) (hb : s.mayBook c b)
      (hpl : ∀ pl, npl = some pl → (∃ food, pl = zeroPlan opl food) ∨ s.plansAnew c b pl) :
      Move A s k c (c.withSt (.blockedFaults b npl))
  | returned {b : Booking} {pl : Plan} {h : Port} {ph : WashPhase} (hst : c.st = .washing b pl h ph) :
      Move A s k c (c.withSt (.queued b pl.stopped))
  | backToWashed {b : Booking} {pl : Plan}
      (hst : (∃ h, c.st = .inspecting b pl h) ∨ ∃ r, c.st = .released b pl r) :
      Move A s k c (c.withSt (.washed b pl))
  | fillRevoked {b : Booking} {pl : Plan} {h : Port} {r : Release} {f : Fill} {hs : HaltSet} (i : Incident)
      (hst : c.st = .filling b pl h r f hs) :
      Move A s k c ((s.loadComp c b f f.delivered true).capture i)
  | acknowledged : Move A s k c { c with incident := none, overflow := false }
  | handedOut {b : Booking} {pl : Plan} {p : Port} (hst : c.st = .queued b pl) (hp : s.role p = .wash) :
      Move A s k c (c.withSt (.washing b pl p .between))
  | started {b : Booking} {pl : Plan} {h : Port} {ph : WashPhase} (hst : c.st = .washing b pl h ph) :
      Move A s k c { c with st := .washing b pl.started h .active, advanceDue := false }
  | sampled {b : Booking} {pl : Plan} {h : Port} {st : CompState} {n : Nat} (hst : c.st = .washing b pl h .active)
      (hs : Sampled b pl h c.performed st n) :
      Move A s k c (Comp.caughtUp { c with st := st, performed := n })
  | inspected {b : Booking} {pl : Plan} {p : Port} (hst : c.st = .washed b pl) (hp : s.role p = .inspect) :
      Move A s k c (c.withSt (.inspecting b pl p))
  | passed {b : Booking} {pl : Plan} {h : Port} {tag index reported ctag : Nat} {f : Found} {r : Reading}
      (hA : A .inspectResult h (addressBytes tag index ++ argBytes [(1, 1), (2, reported), (3, ctag)]))
      (hf : s.names tag index f) (hslot : f.slot = k) (hst : c.st = .inspecting b pl h) (hp : s.role h = .inspect)
      (hreported : reported ≤ 65535) (htag : 1 ≤ ctag ∧ ctag ≤ 999999) (hr : s.deciding h reported = some r)
      (hlimit : r.conductivity ≤ (s.classLimit b.cls).conductivity) :
      Move A s k c
        { c with reading := some r, st := .released b pl (s.grant c b pl r ctag), advanceDue := false }
  | rewashed {b : Booking} {pl : Plan} {h : Port} {reported : Nat} {r : Reading} (hst : c.st = .inspecting b pl h)
      (hr : s.deciding h reported = some r) (hsteps : pl.steps ≠ []) (hfaults : c.faults + 1 < 3) :
      Move A s k c
        { c with
          reading := some r, faults := c.faults + 1, performed := 0
          st := .queued { b with priority := .urgent } pl.restarted }
  | levelZeroFailed {b : Booking} {pl : Plan} {h : Port} {reported : Nat} {r : Reading} (hst : c.st = .inspecting b pl h)
      (hr : s.deciding h reported = some r) (hfaults : c.faults + 1 < 3) :
      Move A s k c { c with reading := some r, faults := c.faults + 1, st := .washed b pl }
  | inspectionBlocked {b : Booking} {pl : Plan} {h : Port} {reported : Nat} {r : Reading} (i : Incident)
      (hst : c.st = .inspecting b pl h) (hr : s.deciding h reported = some r) :
      Move A s k c
        (({ c with reading := some r, faults := 3, performed := 0, st := .blockedFaults b (some pl) } : Comp).capture i)
  | fillBegun {b : Booking} {pl : Plan} {r : Release} {p : Port} {a : Arm} {tag index : Nat} {f : Found}
      (hA : A .fillBegin p (addressBytes tag index ++ argBytes [(1, a.val + 1), (2, r.target), (3, r.closureTag)]))
      (hf : s.names tag index f) (hslot : f.slot = k) (hst : c.st = .released b pl r) (hp : s.role p = .fill)
      (htarget : 1 ≤ r.target) (hequipped : s.notEquipped a p = none) (hfree : s.fillOn a = none)
      (hground : s.boundLevel (.ground a) = some .active) (hdry : s.notDry a = false) :
      Move A s k c (c.withSt (.filling b pl p { r with frozen := true } (s.newFill c a r.target) noHalts))
  | tagRefused {b : Booking} {pl : Plan} {r : Release} (i : Incident) (hst : c.st = .released b pl r) :
      Move A s k c ((c.withSt (.washed b pl)).capture i)
  | volumeTaken {b : Booking} {pl : Plan} {h : Port} {r : Release} {f : Fill} {hs : HaltSet} (sent : Nat)
      (hst : c.st = .filling b pl h r f hs) :
      Move A s k c (c.withSt (.filling b pl h r (reported f hs sent).1 (reported f hs sent).2))
  | resumed {b : Booking} {pl : Plan} {h : Port} {r : Release} {f : Fill} {hs : HaltSet}
      (hst : c.st = .filling b pl h r f hs) (hlimit : hs.limit = false) :
      Move A s k c (c.withSt (.filling b pl h r f noHalts))
  | fillEnded {b : Booking} {pl : Plan} {h : Port} {r : Release} {f : Fill} {hs : HaltSet} (sent : Nat)
      (hst : c.st = .filling b pl h r f hs) :
      Move A s k c (s.endedFill c b h f (deliveredCount f.delivered sent))
  | halted {b : Booking} {pl : Plan} {h : Port} {r : Release} {f : Fill} {hs hs' : HaltSet} (i : Incident)
      (hst : c.st = .filling b pl h r f hs) (hlimit : hs'.limit = hs.limit) :
      Move A s k c ((c.withSt (.filling b pl h r f hs')).capture i)
  | silenced {b : Booking} {pl : Plan} {h : Port} (hst : c.st = .washing b pl h .active) :
      Move A s k c (c.settled.withSt (.washing b pl.ticked h (.stalled .silence)))
  | overran {b : Booking} {pl : Plan} {h : Port} (hst : c.st = .washing b pl h .active) (hfaults : c.faults + 1 < 3) :
      Move A s k c
        { c.settled with faults := c.faults + 1, st := .washing b pl.ticked h (.stalled .overrun) }
  | overrunBlocked {b : Booking} {pl : Plan} {h : Port} (i : Incident) (hst : c.st = .washing b pl h .active) :
      Move A s k c
        (({ c.settled with faults := 3, st := .blockedFaults b (some pl.ticked.stopped) } : Comp).capture i)
  | expired {b : Booking} {pl : Plan} {r : Release} (i : Incident) (hst : c.st = .released b pl r) :
      Move A s k c ((c.settled.withSt (.washed b pl)).capture i)
  | caughtUp (hnone : c.nextExpiry = none) : Move A s k c c.counted.settled
  | reached : Move A s k c c.reached

end Sys2Proof.Machine
end

section
/-! PROOF. What a command may do to the whole state: one constructor for each kind of change, one lemma for each operation. -/

namespace Sys2Proof.Machine

variable {s : State} {c c' : Comp}

/-! ### The changes -/

/-- The priority under which a compartment stands in the wash queue, if it is QUEUED (R47). -/
def CompState.queuedAs : CompState → Option Priority
  | .queued b _ => some b.priority
  | _ => none

/-- Two records call for the same demands (R84, R125, R139). -/
def Comp.drivesAs (c c' : Comp) : Prop :=
  (∀ a, flowsOn a c' = flowsOn a c) ∧ (∀ p, activeFor p c' = activeFor p c) ∧ c'.incident.isSome = c.incident.isSome

/-- What a port may hold of a frame (R174): 1 to 3 bytes of a header, or a header and part of the frame it announces. -/
def Rx.legal (rx : Rx) : Prop :=
  (∀ got, rx = .header got → 1 ≤ got.length ∧ got.length ≤ 3) ∧
  (∀ got, rx = .payload got →
    4 ≤ got.length ∧ got.length < statedLength got + 6 ∧ 1 ≤ statedLength got ∧ statedLength got ≤ 240)

/-- The fields of a catalogue entry lie in their ranges (R24). -/
def Product.legal (e : Product) : Prop :=
  (1 ≤ e.code ∧ e.code ≤ 9999) ∧ 1 ≤ e.cls.val ∧ e.minLevelAfter ≤ 6 ∧ (80 ≤ e.fillPercent ∧ e.fillPercent ≤ 98)

/-- One change of the state, before or between replies. -/
inductive Change (A : Taking) (s : State) : State → Prop
  | stay : Change A s s
  | link (p : Port) (rx : Rx) (flags : LinkFlags) (hrx : (s.port p).rx.legal → rx.legal) :
      Change A s (s.setPort p { s.port p with rx := rx, flags := flags })
  | limit (p : Port) (n : Nat) (hn : 96 ≤ n ∧ n ≤ 240) : Change A s (s.setPort p { s.port p with limit := n })
  | role (q : Port) (role : Role) (caps : Caps) (hcaps : role ≠ .wash → caps = ⟨false, false, false⟩)
      (hwork : s.workInHand q = none) : Change A s (s.setPort q { s.port q with role := role, caps := caps })
  | accessMap (q : Port) (denied : List ReqName) : Change A s (s.setPort q { s.port q with denied := denied })
  | clock (v : ClockValue) : Change A s { s with clock := v }
  | productPut (e : Product) (he : e.legal) (href : s.referenced e.code = false)
      (hroom : (s.product? e.code).isSome = true ∨ s.catalogue.length < 128) :
      Change A s { s with catalogue := putProduct e s.catalogue }
  | productCut (code : Nat) (href : s.referenced code = false) :
      Change A s { s with catalogue := s.catalogue.filter fun e => e.code != code }
  | matrixRow (row : ClassNo) (levels : List Nat) (hlevels : ∀ n ∈ levels, n ≤ 7) :
      Change A s { s with matrix := s.matrix.set row (matrixRow levels) }
  | classLimit (cls : ClassNo) (x : ClassLimit) (hc : 1 ≤ x.conductivity ∧ x.conductivity ≤ 20000)
      (hv : 1 ≤ x.validityHours ∧ x.validityHours ≤ 48) : Change A s { s with limits := s.limits.set cls x }
  | program (n : Fin 6) (steps : List WashStep) (hn : steps.length ≤ 6) (hsteps : ∀ st ∈ steps, st.legal) :
      Change A s { s with programs := s.programs.set n steps }
  | configured (l : LineNo) (cfg : LineConfig)
      (hdepth : cfg.depth = 0 ∨ cfg.depth = 2 ∨ cfg.depth = 4 ∨ cfg.depth = 8) (hok : s.configRefusal l cfg = none) :
      Change A s (((s.endBinding (s.line l).func).setLine l (s.configured cfg)).beginBinding cfg.func)
  | locked : Change A s { s with lock := true }
  | latchSet (l : LineNo) (latch : Bool) (hfree : (s.line l).func = none) :
      Change A s (s.setLine l { s.line l with latch := latch })
  | calibrated (scale : Nat) (offset : Int) (hscale : 1 ≤ scale ∧ scale ≤ 1023)
      (hoffset : -2000 ≤ offset ∧ offset ≤ 2000) :
      Change A s
        { s with
          scale := scale, offset := offset
          probes := s.probes.map fun x => x.map fun r => { r with pendingMark := true } }
  | armMapped (a : Arm) (q : Option Port) (hfree : s.fillOn a = none) : Change A s (s.mapArmTo a q)
  | sampled (l : LineNo) (lv : Level) : Change A s (s.setLine l ((s.line l).sample lv).1)
  | converted (l : LineNo) (raw : Nat) (hraw : raw ≤ 1023) : Change A s (convertLine l raw s)
  | cleared : Change A s (clearYard s).1
  | registered (tag : Nat) (cs : List (Nat × Nat)) (t : TankerSlot) (htag : 1 ≤ tag ∧ tag ≤ 65535)
      (hcs : 1 ≤ cs.length ∧ cs.length ≤ 6) (hcap : ∀ x ∈ cs, 500 ≤ x.1 ∧ x.1 ≤ 20000)
      (hnew : s.findTanker tag = none) (hfree : s.freeTanker = some t)
      (hknown : ∀ x ∈ cs, s.unknownCode x.2 = false) :
      Change A s
        (makeComps t tag 1 cs
          (s.setTanker t (some { tag := tag, count := cs.length, arrival := s.clock, docked := none })))
  | departed (tag : Nat) (t : TankerSlot) (k : Tanker) (hk : s.findTanker tag = some (t, k))
      (hheld : ∀ c ∈ s.compsOf t, c.st.holder = none) :
      Change A s ((s.dequeueTanker tag).freeTankerSlot t).driveLatches
  | undocked (p : Port) (t : TankerSlot) (k : Tanker) (hk : s.dockedTanker p = some (t, k)) (hheld : s.heldBy p = []) :
      Change A s (s.setTanker t (some { k with docked := none }))
  | handedOut (p : Port) (w : Work) (hp : s.role p = .wash) (hroom : (s.heldBy p).length < 2)
      (hw : s.firstWork p (s.dockedTanker p) = some w) : Change A s (s.handOut p (s.dockedTanker p).isSome w)
  | record (k : Slot) (c c' : Comp) (hc : s.compAt k = some c) (hm : Move A s k c c')
      (hqueue : c'.st.queuedAs = c.st.queuedAs) (hdrives : c.drivesAs c') : Change A s (s.setComp k c')
  | driven (k : Slot) (c c' : Comp) (hc : s.compAt k = some c) (hm : Move A s k c c')
      (hqueue : c'.st.queuedAs = c.st.queuedAs) : Change A s (s.setComp k c').driveLatches
  | joined (k : Slot) (c c₀ : Comp) (b : Booking) (pl : Plan) (hc : s.compAt k = some c)
      (hm : Move A s k c (c₀.withSt (.queued b pl))) (hqueue : c.st.queuedAs = none)
      (hdrives : c.drivesAs (c₀.withSt (.queued b pl))) : Change A s (s.enqueueTail k c₀ b pl)
  | returned (k : Slot) (c : Comp) (b : Booking) (pl : Plan) (hc : s.compAt k = some c)
      (hm : Move A s k c (c.withSt (.queued b pl))) (hqueue : c.st.queuedAs = none) :
      Change A s (s.enqueueHead k c b pl).driveLatches
  | left (k : Slot) (c c' : Comp) (old : Priority) (hc : s.compAt k = some c) (hm : Move A s k c c')
      (hold : c.st.queuedAs = some old) (hqueue : c'.st.queuedAs = none) (hheld : c'.st.holder = none)
      (hdrives : c.drivesAs c') : Change A s ((s.dequeue c.entry).setComp k c')
  | moved (k : Slot) (c : Comp) (b : Booking) (pl : Plan) (old : Priority) (hc : s.compAt k = some c)
      (hm : Move A s k c (c.withSt (.queued b pl))) (hold : c.st.queuedAs = some old)
      (hdrives : c.drivesAs (c.withSt (.queued b pl))) :
      Change A s ((s.dequeue c.entry).enqueueTail k c b pl)
  | advanced : Change A s s.advanced
  | reset : Change A s { State.reset with pending := s.pending }

end Sys2Proof.Machine
end

section
/-! PROOF. The change each operation makes: check 3's ranges, the check chain, and one lemma for each owner's request. -/

namespace Sys2Proof.Machine

variable {s : State} {A : Taking} {p : Port} {k : Slot} {c c₀ c' : Comp} {tag index : Nat}

/-! ### What check 3 lets through -/

theorem checkPayload_ok {fs : List Field} {n : Nat} {payload : List Byte} {vs : List Nat}
    (h : checkPayload fs n payload = .ok vs) : fieldsFit fs [] vs = true ∧ payload = argBytes (fieldArgs fs vs) := by
  unfold checkPayload at h
  split at h
  next => cases h
  next ws htake =>
    cases h
    obtain ⟨us, hus, hfit, hpayload⟩ := takeFields_ok _ _ _ _ _ htake
    rw [List.nil_append] at hus
    subst hus
    exact ⟨hfit, by simpa using hpayload⟩
  next => cases h

theorem checkLong_ok {fs : List Field} {payload : List Byte} {vs : List Nat} (h : checkLong fs payload = .ok vs) :
    fieldsFit fs [] vs = true ∧ payload = argBytes (fieldArgs fs vs) :=
  checkPayload_ok h

/-- An argument that check 3 lets through is in the range of its field, after the arguments before it. -/
theorem legal_of_fieldsFit : ∀ {fs : List Field} {got vs : List Nat} {n : Nat} {f : Field}, fieldsFit fs got vs = true →
    fs[n]? = some f → f.legal (got ++ vs.take n) (vs.getD n 0) = true ∧ vs.getD n 0 < 256 ^ f.width
  | f :: fs, got, v :: vs, 0, g, h, hn => by
    simp only [fieldsFit, Bool.and_eq_true, decide_eq_true_eq] at h
    obtain rfl : f = g := by simpa using hn
    simpa using h.1.symm
  | f :: fs, got, v :: vs, n + 1, g, h, hn => by
    simp only [fieldsFit, Bool.and_eq_true] at h
    simpa using legal_of_fieldsFit h.2 (by simpa using hn)
  | [], _, _, _, _, _, hn => by simp at hn
  | _ :: _, _, [], _, _, h, _ => by simp [fieldsFit] at h

theorem length_of_fieldsFit : ∀ {fs : List Field} {got vs : List Nat}, fieldsFit fs got vs = true → vs.length = fs.length
  | [], _, [], _ => rfl
  | f :: fs, got, v :: vs, h => by
    simp only [fieldsFit, Bool.and_eq_true] at h
    simp [length_of_fieldsFit h.2]
  | [], _, _ :: _, h => by simp [fieldsFit] at h
  | _ :: _, _, [], h => by simp [fieldsFit] at h

/-- An argument whose field is an interval lies in it. -/
theorem arg_mem_interval {fs : List Field} {vs : List Nat} {n w lo hi : Nat} (h : fieldsFit fs [] vs = true)
    (hn : fs[n]? = some (field w lo hi)) : lo ≤ arg vs (n + 1) ∧ arg vs (n + 1) ≤ hi := by
  simpa [field, arg] using (legal_of_fieldsFit h hn).1

/-! ### The check chain -/

/-- What holds of every refusal and of the action holds of what check 3 makes of the arguments. -/
theorem withArgs_induction {P : State × Answer → Prop} {args : Except Nat (List Nat)} {act : List Nat → State × Answer}
    (hrefuse : ∀ r d, P (s, refuse r d)) (hact : ∀ vs, args = .ok vs → P (act vs)) : P (withArgs args s act) := by
  cases args with
  | error d => exact hrefuse _ _
  | ok vs => exact hact vs rfl

/-- What holds of every refusal and of the action holds of what checks 4 and 5 make of an address. -/
theorem State.withComp_induction {P : State × Answer → Prop} {act : Found → State × Answer}
    (hrefuse : ∀ r d, P (s, refuse r d)) (hact : ∀ f, s.find tag index = some f → P (act f)) :
    P (s.withComp tag index act) := by
  obtain h | h | ⟨f, hf, h⟩ := State.withComp_cases s tag index act <;> rw [h]
  · exact hrefuse _ _
  · exact hrefuse _ _
  · exact hact f hf

/-- What holds of every refusal and of the action holds of what check 6 makes of a request that needs the hold. -/
theorem needsHold_induction {P : State × Answer → Prop} {act : State × Answer}
    (hrefuse : ∀ r d, P (s, refuse r d)) (hact : c.st.holder = some p → P act) : P (needsHold p s c act) := by
  obtain ⟨-, h⟩ | ⟨_, -, -, h⟩ | ⟨hp, h⟩ := needsHold_cases p s c act <;> rw [h]
  · exact hrefuse _ _
  · exact hrefuse _ _
  · exact hact hp

/-- What holds of every refusal and of the action holds of what check 6 makes of a request that needs no holder. -/
theorem needsNoHolder_induction {P : State × Answer → Prop} {act : State × Answer}
    (hrefuse : ∀ r d, P (s, refuse r d)) (hact : c.st.holder = none → P act) : P (needsNoHolder s c act) := by
  obtain ⟨hn, h⟩ | ⟨_, -, h⟩ := needsNoHolder_cases s c act <;> rw [h]
  · exact hact hn
  · exact hrefuse _ _

/-! ### Records that call for the same demands -/

/-- The compartment is neither being filled nor in a running step. -/
def CompState.idle (st : CompState) : Prop := st.fill = none ∧ st.washPhase ≠ some .active

theorem CompState.idle_of_holder_none {st : CompState} (h : st.holder = none) : st.idle := by
  cases st <;> simp_all [CompState.holder, CompState.idle, CompState.fill, CompState.washPhase]

theorem Comp.drivesAs_of_idle (hc : c.st.idle) (hc' : c'.st.idle) (hi : c'.incident = c.incident) : c.drivesAs c' := by
  obtain ⟨hf, hw⟩ := hc
  obtain ⟨hf', hw'⟩ := hc'
  have hoff : ∀ {st : CompState}, st.washPhase ≠ some .active → (st.washPhase == some .active) = false := by simp
  exact ⟨fun a => by simp [flowsOn, hf, hf'], fun p => by simp [activeFor, hoff hw, hoff hw'], by rw [hi]⟩

theorem Comp.drivesAs_of_active {b b' : Booking} {pl pl' : Plan} {h : Port} (hc : c.st = .washing b pl h .active)
    (hc' : c'.st = .washing b' pl' h .active) (hi : c'.incident = c.incident) : c.drivesAs c' :=
  ⟨fun a => by simp [flowsOn, hc, hc', CompState.fill],
    fun p => by simp [activeFor, hc, hc', CompState.washPhase, CompState.holder], by rw [hi]⟩

theorem Comp.drivesAs_refl (c : Comp) : c.drivesAs c := ⟨fun _ => rfl, fun _ => rfl, rfl⟩

theorem Comp.drivesAs_trans {c'' : Comp} (h : c.drivesAs c') (h' : c'.drivesAs c'') : c.drivesAs c'' :=
  ⟨fun a => (h'.1 a).trans (h.1 a), fun p => (h'.2.1 p).trans (h.2.1 p), h'.2.2.trans h.2.2⟩

/-- Counting an advance changes no demand. -/
theorem Comp.drivesAs_counted (c : Comp) : c.drivesAs c.counted := by
  obtain h | ⟨b, pl, h, hst, hc⟩ | ⟨b, pl, r, hst, -, hc⟩ := c.counted_cases
  · rw [h]; exact c.drivesAs_refl
  · exact Comp.drivesAs_of_active hst (by rw [hc]; rfl) (by rw [hc]; rfl)
  · rw [hc]
    exact Comp.drivesAs_of_idle (by simp [hst, CompState.idle, CompState.fill, CompState.washPhase])
      (by simp [CompState.idle, CompState.fill, CompState.washPhase]) rfl

theorem Comp.drivesAs_settled (c : Comp) : c.drivesAs c.settled := ⟨fun _ => rfl, fun _ => rfl, rfl⟩

theorem Comp.drivesAs_caughtUp (c : Comp) : c.drivesAs c.caughtUp := by
  obtain ⟨h, -⟩ | ⟨h, -⟩ := c.caughtUp_cases <;> rw [h]
  · exact c.drivesAs_refl
  · exact Comp.drivesAs_trans c.drivesAs_counted c.counted.drivesAs_settled

/-! ### The planner's requests -/

/-- A record planned anew is the same but for its faults. -/
theorem Replanned.parts (h : Replanned c c₀) :
    c₀.st = c.st ∧ c₀.incident = c.incident ∧ c.st.holder = none ∧ c₀.last = c.last := by
  cases h with
  | booked hheld => exact ⟨rfl, rfl, hheld, rfl⟩
  | unblocked hblocked =>
    refine ⟨rfl, rfl, ?_, rfl⟩
    cases hst : c.st <;> simp_all [stateCode, CompState.holder]

/-- A compartment nobody holds before and after calls for nothing but ALARM. -/
theorem Comp.drivesAs_of_unheld (hc : c.st.holder = none) (hc' : c'.st.holder = none) (hi : c'.incident = c.incident) :
    c.drivesAs c' :=
  Comp.drivesAs_of_idle (CompState.idle_of_holder_none hc) (CompState.idle_of_holder_none hc') hi

theorem Replanned.drivesAs (h : Replanned c c₀) (hc' : c'.st.holder = none) (hi : c'.incident = c₀.incident) :
    c.drivesAs c' := by
  obtain ⟨-, hincident, hheld, -⟩ := h.parts
  exact Comp.drivesAs_of_unheld hheld hc' (hi.trans hincident)

theorem newPlan_eq_some {n : Nat} {food : Bool} {pl : Plan} (h : s.newPlan n food = some pl) :
    s.program n ≠ [] ∧ pl = ⟨n, s.program n, 1, 0, 0, 0, 0, true, needsOf (s.program n) food⟩ := by
  unfold State.newPlan at h
  split_ifs at h with hempty
  exact ⟨by simpa using hempty, (Option.some.inj h).symm⟩

theorem planAfresh_change {b : Booking} {food : Bool} (hk : s.compAt k = some c) (hc : Replanned c c₀)
    (hq : c.st.queuedAs = none) (hb : s.mayBook c b) :
    Change A s (planAfresh k c₀ b food (s.derive c b.cls food) s).1 := by
  obtain ⟨hst, -, -, -⟩ := hc.parts
  unfold planAfresh
  split
  next => exact .record k c _ hk (.forbidden hc hb) hq.symm (hc.drivesAs rfl rfl)
  next =>
    rw [hst]
    exact .record k c _ hk (.levelZero food hc hb) hq.symm (hc.drivesAs rfl rfl)
  next n hd =>
    split
    next => exact .stay
    next pl hpl =>
      exact .joined k c c₀ b pl hk (.planned hc hb ⟨n + 1, food, by omega, hd, hpl⟩) hq (hc.drivesAs rfl rfl)

theorem requeue_change {old b : Booking} {pl npl : Plan} (hk : s.compAt k = some c) (hst : c.st = .queued old pl)
    (hm : Move A s k c (c.withSt (.queued b npl))) : Change A s (requeue k c old b npl s) := by
  have hheld : c.st.holder = none := by rw [hst]; rfl
  have hold : c.st.queuedAs = some old.priority := by rw [hst]; rfl
  have hdrives : c.drivesAs (c.withSt (.queued b npl)) := Comp.drivesAs_of_unheld hheld rfl rfl
  unfold requeue
  split_ifs with hpr
  · exact .record k c _ hk hm (by rw [hold, ← hpr]; rfl) hdrives
  · exact .moved k c b npl old.priority hk hm hold hdrives

theorem bookQueued_change {old b : Booking} {pl : Plan} {food : Bool} (hk : s.compAt k = some c)
    (hst : c.st = .queued old pl) (hb : s.mayBook c b) :
    Change A s (bookQueued k c old pl b food (s.derive c b.cls food) s).1 := by
  have hheld : c.st.holder = none := by rw [hst]; rfl
  have hold : c.st.queuedAs = some old.priority := by rw [hst]; rfl
  have hc : Replanned c c := .booked hheld (by simp [hst]) (by simp [hst])
  unfold bookQueued
  split
  next => exact .left k c _ old.priority hk (.forbidden hc hb) hold rfl rfl (hc.drivesAs rfl rfl)
  next =>
    have hplan : some pl = c.st.plan := by rw [hst]; rfl
    rw [hplan]
    exact .left k c _ old.priority hk (.levelZero food hc hb) hold rfl rfl (hc.drivesAs rfl rfl)
  next n hd =>
    split_ifs
    · exact requeue_change hk hst (.keptQueued food hst hb)
    · split
      next => exact .stay
      next npl hpl => exact requeue_change hk hst (.planned hc hb ⟨n + 1, food, by omega, hd, hpl⟩)

/-- A booking whose food need the plan does not meet is not derived at level 0 (R34). -/
theorem one_le_of_derive {cls : ClassNo} {food : Bool} {n : Nat} {pl : Plan} (hplan : c.st.plan = some pl)
    (hd : s.derive c cls food = .level n) (hn : ¬ (n ≤ c.performed ∧ foodMet food pl.foodBay = true)) : 1 ≤ n := by
  rcases Nat.eq_zero_or_pos n with rfl | hpos
  · have hneed : foodMet food pl.foodBay = false := by simpa using hn
    have : (food && c.st.plan.any fun pl => !pl.foodBay) = true := by
      rw [hplan]; cases food <;> simp_all [foodMet]
    unfold State.derive at hd
    split at hd
    · simp at hd
    · split_ifs at hd with h7 h0
      · simp at hd
      · simp only [Derived.level.injEq] at hd
        exact absurd hd h0
  · exact hpos

theorem bookWashed_change {old b : Booking} {pl : Plan} {food : Bool} (hk : s.compAt k = some c)
    (hst : c.st = .washed old pl ∨ ∃ r, c.st = .released old pl r) (hb : s.mayBook c b) :
    Change A s (bookWashed k c pl b food (s.derive c b.cls food) s).1 := by
  obtain ⟨hheld, hq, hplan, hc⟩ : c.st.holder = none ∧ c.st.queuedAs = none ∧ c.st.plan = some pl ∧ Replanned c c := by
    obtain h | ⟨r, h⟩ := hst <;> rw [h] <;>
      exact ⟨rfl, rfl, rfl, .booked (by rw [h]; rfl) (by simp [h]) (by simp [h])⟩
  unfold bookWashed
  split
  next => exact .record k c _ hk (.forbidden hc hb) hq.symm (hc.drivesAs rfl rfl)
  next n hd =>
    split_ifs with hkept
    · exact .record k c _ hk (.keptWashed food ⟨old, hst⟩ hb) hq.symm (hc.drivesAs rfl rfl)
    · split
      next => exact .stay
      next npl hpl =>
        have hn : 1 ≤ n := one_le_of_derive hplan hd hkept
        exact .joined k c c b npl hk (.planned hc hb ⟨n, food, hn, hd, hpl⟩) hq (hc.drivesAs rfl rfl)

theorem bookReleased_change {old b : Booking} {pl : Plan} {r : Release} {food : Bool} (hk : s.compAt k = some c)
    (hst : c.st = .released old pl r) (hb : s.mayBook c b) :
    Change A s (bookReleased k c pl r b food (s.derive c b.cls food) s).1 := by
  have hheld : c.st.holder = none := by rw [hst]; rfl
  unfold bookReleased
  split_ifs
  · exact .record k c _ hk (.keptReleased food hst hb) (by rw [hst]; rfl) (Comp.drivesAs_of_unheld hheld rfl rfl)
  · exact bookWashed_change hk (.inr ⟨r, hst⟩) hb

theorem bookFaults_change {old b : Booking} {opl : Option Plan} {food : Bool} (hk : s.compAt k = some c)
    (hst : c.st = .blockedFaults old opl) (hb : s.mayBook c b) :
    Change A s (bookFaults k c b food (s.derive c b.cls food) s).1 := by
  have hheld : c.st.holder = none := by rw [hst]; rfl
  have hplan : c.st.plan = opl := by rw [hst]; rfl
  have hset : ∀ npl : Option Plan, (∀ pl, npl = some pl → (∃ food, pl = zeroPlan opl food) ∨ s.plansAnew c b pl) →
      Change A s (s.setComp k (c.withSt (.blockedFaults b npl))) := fun npl hpl =>
    .record k c _ hk (.bookedBlocked hst hb hpl) (by rw [hst]; rfl) (Comp.drivesAs_of_unheld hheld rfl rfl)
  unfold bookFaults
  split
  next => exact hset none (by simp)
  next => exact hset _ fun pl hpl => .inl ⟨food, hplan ▸ (Option.some.inj hpl).symm⟩
  next n hd =>
    split
    next => exact .stay
    next npl hpl => exact hset _ fun pl h => .inr ⟨n + 1, food, by omega, hd, Option.some.inj h ▸ hpl⟩

theorem bookBy_change {f : Found} {b : Booking} {food : Bool} (hk : s.compAt f.slot = some f.comp)
    (hb : s.mayBook f.comp b) : Change A s (bookBy f b food s).1 := by
  have hafresh : f.comp.st.holder = none → f.comp.st.queuedAs = none → (∀ q, f.comp.st ≠ .loaded q) →
      (∀ b pl, f.comp.st ≠ .blockedFaults b pl) →
      Change A s (planAfresh f.slot f.comp b food (s.derive f.comp b.cls food) s).1 := fun h1 h2 h3 h4 =>
    planAfresh_change hk (.booked h1 h3 h4) h2 hb
  unfold bookBy
  split
  next h => exact hafresh (by rw [h]; rfl) (by rw [h]; rfl) (by simp [h]) (by simp [h])
  next h => exact bookQueued_change hk h hb
  next h => exact bookWashed_change hk (.inl h) hb
  next h => exact bookReleased_change hk h hb
  next h => exact hafresh (by rw [h]; rfl) (by rw [h]; rfl) (by simp [h]) (by simp [h])
  next h => exact bookFaults_change hk h hb
  all_goals exact .stay

theorem book_change {target : Nat} {pr : Priority} : Change A s (book tag index target pr s).1 := by
  refine State.withComp_induction (P := fun x => Change A s x.1) (fun _ _ => .stay) fun f hf => ?_
  refine needsNoHolder_induction (P := fun x => Change A s x.1) (fun _ _ => .stay) fun _ => ?_
  split_ifs
  · exact .stay
  · split
    next => exact .stay
    next cls hcls => exact bookBy_change (State.find_compAt hf) (.inl hcls)

theorem unblockWith_change {f : Found} {b : Booking} (hk : s.compAt f.slot = some f.comp)
    (hcode : stateCode f.comp.st = 9) (hb : f.comp.st.booking = some b) : Change A s (unblockWith f b s).1 := by
  have hq : f.comp.st.queuedAs = none := by cases h : f.comp.st <;> simp_all [stateCode, CompState.queuedAs]
  exact planAfresh_change hk (.unblocked hcode) hq (.inr hb)

theorem unblock_change : Change A s (unblock tag index s).1 := by
  refine State.withComp_induction (P := fun x => Change A s x.1) (fun _ _ => .stay) fun f hf => ?_
  split
  next h => exact unblockWith_change (State.find_compAt hf) (by rw [h]; rfl) (by rw [h]; rfl)
  next h => exact unblockWith_change (State.find_compAt hf) (by rw [h]; rfl) (by rw [h]; rfl)
  all_goals exact .stay

theorem defineProduct_change {e : Product} (he : e.legal) : Change A s (defineProduct e s).1 := by
  unfold defineProduct
  split_ifs with href hfull
  · exact .stay
  · exact .stay
  · refine .productPut e he (by simpa using href) ?_
    cases hp : s.product? e.code with
    | none => exact .inr (by simpa [hp, Config.catalogueSize] using hfull)
    | some x => exact .inl rfl

theorem deleteProduct_change {code : Nat} : Change A s (deleteProduct code s).1 := by
  unfold deleteProduct
  split_ifs with habsent href
  · exact .stay
  · exact .stay
  · exact .productCut code (by simpa using href)

end Sys2Proof.Machine
end

section
/-! PROOF. The change each operation makes, continued: the yard, the timers, washing, inspection, filling, lines and roles. -/

namespace Sys2Proof.Machine

variable {s : State} {A : Taking} {p : Port} {k : Slot} {c : Comp} {tag index : Nat}

/-! ### The yard -/

theorem returnToQueue_change {b : Booking} {pl : Plan} {h : Port} {ph : WashPhase} (hk : s.compAt k = some c)
    (hst : c.st = .washing b pl h ph) : Change A s (returnToQueue k c b pl s) :=
  .returned k c b pl.stopped hk (.returned hst) (by rw [hst]; rfl)

theorem revoke_change : Change A s (revoke tag index s).1 := by
  refine State.withComp_induction (P := fun x => Change A s x.1) (fun _ _ => .stay) fun f hf => ?_
  have hk := State.find_compAt hf
  split
  next h => exact returnToQueue_change hk h
  next h =>
    refine .record f.slot f.comp _ hk (.backToWashed (.inl ⟨_, h⟩)) (by rw [h]; rfl) ?_
    exact Comp.drivesAs_of_idle (by rw [h]; exact ⟨rfl, nofun⟩) (CompState.idle_of_holder_none rfl) rfl
  next h =>
    refine .record f.slot f.comp _ hk (.backToWashed (.inr ⟨_, h⟩)) (by rw [h]; rfl) ?_
    exact Comp.drivesAs_of_unheld (by rw [h]; rfl) rfl rfl
  next h => exact .driven f.slot f.comp _ hk (.fillRevoked _ h) (by rw [h, Comp.capture_st]; rfl)
  all_goals exact .stay

theorem compArgs_ok : ∀ {n i : Nat} {bs : List Byte} {cs : List (Nat × Nat)}, compArgs n i bs = .ok cs →
    cs.length = n ∧ ∀ x ∈ cs, 500 ≤ x.1 ∧ x.1 ≤ 20000
  | 0, i, bs, cs, h => by cases h; simp
  | n + 1, i, bs, cs, h => by
    unfold compArgs at h
    split_ifs at h with hcap hlast
    split at h
    next => cases h
    next rest hrest =>
      obtain ⟨hlen, hall⟩ := compArgs_ok hrest
      cases h
      refine ⟨by simp [hlen], ?_⟩
      simp only [List.mem_cons, forall_eq_or_imp]
      exact ⟨by omega, hall⟩

theorem registerArgs_ok {payload : List Byte} {cs : List (Nat × Nat)} (h : registerArgs payload = .ok (tag, cs)) :
    (1 ≤ tag ∧ tag ≤ 65535) ∧ (1 ≤ cs.length ∧ cs.length ≤ 6) ∧ ∀ x ∈ cs, 500 ≤ x.1 ∧ x.1 ≤ 20000 := by
  unfold registerArgs at h
  split_ifs at h with h1 h2 h3 h4
  split at h
  next => cases h
  next cs' hcs =>
    obtain ⟨hlen, hall⟩ := compArgs_ok hcs
    cases h
    have hlt := beValue_lt (payload.take 2)
    have h2' : (payload.take 2).length = 2 := by simp; omega
    rw [h2'] at hlt
    exact ⟨⟨by omega, by omega⟩, by omega, hall⟩

theorem registerTanker_change {cs : List (Nat × Nat)} (htag : 1 ≤ tag ∧ tag ≤ 65535)
    (hcs : 1 ≤ cs.length ∧ cs.length ≤ 6) (hcap : ∀ x ∈ cs, 500 ≤ x.1 ∧ x.1 ≤ 20000) :
    Change A s (registerTanker tag cs s).1 := by
  unfold registerTanker
  split_ifs with hdup
  · exact .stay
  · split
    next => exact .stay
    next t ht =>
      split
      next => exact .stay
      next hknown =>
        rw [List.findIdx?_eq_none_iff] at hknown
        exact .registered tag cs t htag hcs hcap (by simpa using hdup) ht hknown

theorem departTanker_change : Change A s (departTanker tag s).1 := by
  unfold departTanker
  split
  next => exact .stay
  next t k hk =>
    split
    next => exact .stay
    next hheld => exact .departed tag t k hk (by simpa using hheld)

/-! ### The timers -/

theorem ackIncident_change : Change A s (ackIncident tag index s).1 := by
  refine State.withComp_induction (P := fun x => Change A s x.1) (fun _ _ => .stay) fun f hf => ?_
  split
  next => exact .stay
  next => exact .driven f.slot f.comp _ (State.find_compAt hf) .acknowledged rfl

theorem takeExpiry_change (hk : s.compAt k = some c) : Change A s (takeExpiry k c s) := by
  unfold takeExpiry
  split
  next b pl h hst =>
    have hq : none = c.st.queuedAs := by rw [hst]; rfl
    split_ifs
    · unfold takeOverrun
      split_ifs with hfaults
      · exact .driven k c _ hk (.overrunBlocked _ hst) (by rw [Comp.capture_st]; exact hq)
      · exact .driven k c _ hk (.overran hst (Nat.not_le.1 hfaults)) hq
    · exact .driven k c _ hk (.silenced hst) hq
  next b pl r hst =>
    exact .driven k c _ hk (.expired _ hst) (by rw [Comp.capture_st, hst]; rfl)
  next => exact .stay

theorem expireIf_change {e : Expiry} : Change A s (expireIf e k s) := by
  unfold expireIf
  split
  next c hk =>
    split_ifs
    · exact takeExpiry_change hk
    · exact .stay
  next => exact .stay

theorem Comp.counted_queuedAs (c : Comp) : c.counted.st.queuedAs = c.st.queuedAs := by
  obtain h | ⟨b, pl, h, hst, hc⟩ | ⟨b, pl, r, hst, -, hc⟩ := c.counted_cases
  · rw [h]
  · rw [hc, hst]; rfl
  · rw [hc, hst]; rfl

theorem Comp.caughtUp_queuedAs (c : Comp) : c.caughtUp.st.queuedAs = c.st.queuedAs := by
  obtain ⟨h, -⟩ | ⟨h, -⟩ := c.caughtUp_cases <;> rw [h]
  exact c.counted_queuedAs

theorem settleOne_change : Change A s (settleOne s k) := by
  unfold settleOne
  split
  next c hk =>
    split_ifs
    · split
      next => exact takeExpiry_change hk
      next hnone =>
        exact .record k c _ hk (.caughtUp hnone) c.counted_queuedAs
          (Comp.drivesAs_trans c.drivesAs_counted c.counted.drivesAs_settled)
    · exact .stay
  next => exact .stay

/-! ### Washing -/

theorem stepStart_change {step : Nat} : Change A s (stepStart p tag index step s).1 := by
  refine State.withComp_induction (P := fun x => Change A s x.1) (fun _ _ => .stay) fun f hf => ?_
  refine needsHold_induction (P := fun x => Change A s x.1) (fun _ _ => .stay) fun _ => ?_
  split
  next h =>
    split_ifs
    · exact .stay
    · exact .stay
    · exact .driven f.slot f.comp _ (State.find_compAt hf) (.started h) (by rw [h]; rfl)
  next => exact .stay

theorem takeSample_change {f : Found} {b : Booking} {pl : Plan} {h : Port} {x : Sample}
    (hk : s.compAt f.slot = some f.comp) (hst : f.comp.st = .washing b pl h .active) :
    Change A s (takeSample f b pl h x s).1 := by
  have hq : none = f.comp.st.queuedAs := by rw [hst]; rfl
  have hdriven : ∀ {st n}, Sampled b pl h f.comp.performed st n → st.queuedAs = none →
      Change A s (s.setComp f.slot (Comp.caughtUp { f.comp with st := st, performed := n })).driveLatches :=
    fun hs hst' => .driven f.slot f.comp _ hk (.sampled hst hs) (by rw [Comp.caughtUp_queuedAs]; exact hst'.trans hq)
  have hrunning : ∀ dose, dose = pl.dose ∨ dose ≤ 65535 →
      Change A s (s.setComp f.slot (Comp.caughtUp (f.comp.withSt
        (.washing b { pl with silence := 0, mismatch := 0, dose := dose } h .active)))) := fun dose hdose =>
    .record f.slot f.comp _ hk (.sampled hst (.running dose hdose)) (by rw [Comp.caughtUp_queuedAs]; exact hq)
      (Comp.drivesAs_trans (c' := f.comp.withSt _) (Comp.drivesAs_of_active hst rfl rfl) (Comp.drivesAs_caughtUp _))
  have hdose : ∀ inc, addDose pl.dose inc ≤ 65535 := fun inc => Nat.min_le_right _ _
  unfold takeSample
  split_ifs with h1 h2 h3 h4
  · exact hdriven .mismatched rfl
  · exact hrunning pl.dose (.inl rfl)
  · exact hrunning _ (.inr (hdose _))
  · exact hdriven (.stepDone _ h4) rfl
  · exact hdriven (.planDone _ _ (hdose _)) rfl

theorem washSample_change {x : Sample} : Change A s (washSample p tag index x s).1 := by
  refine State.withComp_induction (P := fun x => Change A s x.1) (fun _ _ => .stay) fun f hf => ?_
  refine needsHold_induction (P := fun x => Change A s x.1) (fun _ _ => .stay) fun _ => ?_
  split
  next h => exact takeSample_change (State.find_compAt hf) h
  next => exact .stay

/-! ### The wash queue -/

theorem nextWork_change (hp : s.role p = .wash) : Change A s (nextWork p s).1 := by
  unfold nextWork
  split_ifs with hfull
  · exact .stay
  · split
    next w hw => exact .handedOut p w hp (Nat.not_le.1 hfull) hw
    next => exact .stay

theorem giveBack_change : Change A s (giveBack p tag index s).1 := by
  refine State.withComp_induction (P := fun x => Change A s x.1) (fun _ _ => .stay) fun f hf => ?_
  refine needsHold_induction (P := fun x => Change A s x.1) (fun _ _ => .stay) fun _ => ?_
  split
  next h => exact returnToQueue_change (State.find_compAt hf) h
  next => exact .stay

theorem undock_change : Change A s (undock p s).1 := by
  unfold undock
  split
  next => exact .stay
  next t k hk =>
    split
    next hheld => exact .undocked p t k hk hheld
    next => exact .stay

/-! ### Inspection -/

theorem inspectBegin_change (hp : s.role p = .inspect) : Change A s (inspectBegin p tag index s).1 := by
  refine State.withComp_induction (P := fun x => Change A s x.1) (fun _ _ => .stay) fun f hf => ?_
  refine needsNoHolder_induction (P := fun x => Change A s x.1) (fun _ _ => .stay) fun hheld => ?_
  split
  next h =>
    refine .record f.slot f.comp _ (State.find_compAt hf) (.inspected h hp) (by rw [h]; rfl) ?_
    exact Comp.drivesAs_of_idle (CompState.idle_of_holder_none hheld) ⟨rfl, nofun⟩ rfl
  next => exact .stay

theorem inspectCancel_change : Change A s (inspectCancel p tag index s).1 := by
  refine State.withComp_induction (P := fun x => Change A s x.1) (fun _ _ => .stay) fun f hf => ?_
  refine needsHold_induction (P := fun x => Change A s x.1) (fun _ _ => .stay) fun _ => ?_
  split
  next h =>
    refine .record f.slot f.comp _ (State.find_compAt hf) (.backToWashed (.inl ⟨_, h⟩)) (by rw [h]; rfl) ?_
    exact Comp.drivesAs_of_idle (by rw [h]; exact ⟨rfl, nofun⟩) (CompState.idle_of_holder_none rfl) rfl
  next => exact .stay

theorem decideResult_change {f : Found} {b : Booking} {pl : Plan} {r : Reading} {pass : Bool} {reported ctag : Nat}
    (hA : pass = true → A .inspectResult p (addressBytes tag index ++ argBytes [(1, 1), (2, reported), (3, ctag)]))
    (hf : s.names tag index f) (hst : f.comp.st = .inspecting b pl p) (hp : s.role p = .inspect)
    (hreported : reported ≤ 65535) (htag : 1 ≤ ctag ∧ ctag ≤ 999999) (hr : s.deciding p reported = some r) :
    Change A s (decideResult f b pl p r pass reported ctag s).1 := by
  have hk := State.find_compAt hf.2.2
  have hq : none = f.comp.st.queuedAs := by rw [hst]; rfl
  have hidle : f.comp.st.idle := by rw [hst]; exact ⟨rfl, nofun⟩
  have hdrives : ∀ c' : Comp, c'.st.holder = none → c'.incident = f.comp.incident → f.comp.drivesAs c' := fun c' h =>
    Comp.drivesAs_of_idle hidle (CompState.idle_of_holder_none h)
  unfold decideResult
  split_ifs with hpass hfaults hsteps
  · simp only [Bool.and_eq_true, decide_eq_true_eq] at hpass
    exact .record f.slot f.comp _ hk (.passed (hA hpass.1) hf rfl hst hp hreported htag hr hpass.2) hq
      (hdrives _ rfl rfl)
  · exact .driven f.slot f.comp _ hk (.inspectionBlocked _ hst hr) (by rw [Comp.capture_st]; exact hq)
  · exact .record f.slot f.comp _ hk (.levelZeroFailed hst hr (Nat.not_le.1 hfaults)) hq (hdrives _ rfl rfl)
  · refine .joined f.slot f.comp _ _ _ hk (.rewashed hst hr ?_ (Nat.not_le.1 hfaults)) hq.symm (hdrives _ rfl rfl)
    simpa using hsteps

theorem inspectResult_change {pass : Bool} {reported ctag : Nat}
    (hA : pass = true → A .inspectResult p (addressBytes tag index ++ argBytes [(1, 1), (2, reported), (3, ctag)]))
    (ht : 1 ≤ tag ∧ tag ≤ 65535) (hi : 1 ≤ index ∧ index ≤ 6) (hp : s.role p = .inspect) (hreported : reported ≤ 65535)
    (htag : 1 ≤ ctag ∧ ctag ≤ 999999) : Change A s (inspectResult p tag index pass reported ctag s).1 := by
  refine State.withComp_induction (P := fun x => Change A s x.1) (fun _ _ => .stay) fun f hf => ?_
  refine needsHold_induction (P := fun x => Change A s x.1) (fun _ _ => .stay) fun hheld => ?_
  split
  next b pl h hst =>
    split
    next => exact .stay
    next r hr =>
      obtain rfl : h = p := by simpa [hst, CompState.holder] using hheld
      exact decideResult_change hA ⟨ht, hi, hf⟩ hst hp hreported htag hr
  next => exact .stay

/-! ### Filling -/

theorem mapArm_change {a : Arm} {q : Option Port} : Change A s (mapArm a q s).1 := by
  unfold mapArm
  split
  next => exact .stay
  next hfree => exact .armMapped a q hfree

theorem fillReleased_change {f : Found} {b : Booking} {pl : Plan} {r : Release} {a : Arm} {product ctag : Nat}
    (hA : A .fillBegin p (addressBytes tag index ++ argBytes [(1, a.val + 1), (2, product), (3, ctag)]))
    (hf : s.names tag index f) (hst : f.comp.st = .released b pl r) (hp : s.role p = .fill) (hproduct : 1 ≤ product)
    (hequipped : s.notEquipped a p = none) (hfree : s.fillOn a = none) :
    Change A s (fillReleased f b pl r p a product ctag s).1 := by
  have hk := State.find_compAt hf.2.2
  have hq : none = f.comp.st.queuedAs := by rw [hst]; rfl
  unfold fillReleased
  split_ifs with hprod htag hground hdry
  · exact .stay
  · exact .driven f.slot f.comp _ hk (.tagRefused _ hst) (by rw [Comp.capture_st]; exact hq)
  · exact .stay
  · exact .stay
  · obtain rfl : product = r.target := not_not.1 hprod
    obtain rfl : ctag = r.closureTag := not_not.1 htag
    exact .driven f.slot f.comp _ hk (.fillBegun hA hf rfl hst hp hproduct hequipped hfree (not_not.1 hground)
      (by simpa using hdry)) hq

theorem fillBegin_change {a : Arm} {product ctag : Nat}
    (hA : A .fillBegin p (addressBytes tag index ++ argBytes [(1, a.val + 1), (2, product), (3, ctag)]))
    (ht : 1 ≤ tag ∧ tag ≤ 65535) (hi : 1 ≤ index ∧ index ≤ 6) (hp : s.role p = .fill) (hproduct : 1 ≤ product) :
    Change A s (fillBegin p tag index a product ctag s).1 := by
  refine State.withComp_induction (P := fun x => Change A s x.1) (fun _ _ => .stay) fun f hf => ?_
  refine needsNoHolder_induction (P := fun x => Change A s x.1) (fun _ _ => .stay) fun _ => ?_
  split
  next => exact .stay
  next hequipped =>
    split
    next => exact .stay
    next hfree =>
      split
      next hst => exact fillReleased_change hA ⟨ht, hi, hf⟩ hst hp hproduct hequipped hfree
      next => exact .stay

theorem fillVolume_change {sent : Nat} : Change A s (fillVolume p tag index sent s).1 := by
  refine State.withComp_induction (P := fun x => Change A s x.1) (fun _ _ => .stay) fun f hf => ?_
  refine needsHold_induction (P := fun x => Change A s x.1) (fun _ _ => .stay) fun _ => ?_
  split
  next hst => exact .driven f.slot f.comp _ (State.find_compAt hf) (.volumeTaken sent hst) (by rw [hst]; rfl)
  next => exact .stay

theorem fillResume_change : Change A s (fillResume p tag index s).1 := by
  refine State.withComp_induction (P := fun x => Change A s x.1) (fun _ _ => .stay) fun f hf => ?_
  refine needsHold_induction (P := fun x => Change A s x.1) (fun _ _ => .stay) fun _ => ?_
  split
  next hst =>
    split_ifs with h1 hlimit
    all_goals try exact .stay
    exact .driven f.slot f.comp _ (State.find_compAt hf) (.resumed hst (by simpa using hlimit)) (by rw [hst]; rfl)
  next => exact .stay

/-- A filled compartment is LOADED, whether over its limit or not (R123, R124). -/
theorem endedFill_st {b : Booking} {hp : Port} {fl : Fill} {final : Nat} :
    (s.endedFill c b hp fl final).st = .loaded { quantity := final, partLoaded := false } := by
  unfold State.endedFill
  split_ifs
  · rw [Comp.capture_st]; rfl
  · rfl

theorem fillEnd_change {sent : Nat} : Change A s (fillEnd p tag index sent s).1 := by
  refine State.withComp_induction (P := fun x => Change A s x.1) (fun _ _ => .stay) fun f hf => ?_
  refine needsHold_induction (P := fun x => Change A s x.1) (fun _ _ => .stay) fun _ => ?_
  split
  next hst =>
    exact .driven f.slot f.comp _ (State.find_compAt hf) (.fillEnded sent hst) (by rw [endedFill_st, hst]; rfl)
  next => exact .stay

theorem haltArm_change {a : Arm} {cause : HaltSet → HaltSet} {kind : IncidentKind}
    (hcause : ∀ h, (cause h).limit = h.limit) : Change A s (s.haltArm a cause kind) := by
  unfold State.haltArm
  split
  next k c hfill =>
    split
    next hst =>
      exact .driven k c _ (State.fillOn_some hfill).1 (.halted _ hst (hcause _)) (by rw [Comp.capture_st, hst]; rfl)
    next => exact .stay
  next => exact .stay

theorem levelEvent_change {fn : Func} {dir : Bool} : Change A s (s.levelEvent fn dir) := by
  unfold State.levelEvent
  split
  · split_ifs
    · exact .stay
    · exact haltArm_change fun _ => rfl
  · split_ifs
    · exact haltArm_change fun _ => rfl
    · exact .stay
  all_goals exact .stay

/-! ### Roles, limits and lines -/

theorem setPortRole_change {q : Port} {role : Role} {caps : Caps} (hcaps : role ≠ .wash → caps = ⟨false, false, false⟩) :
    Change A s (setPortRole q role caps s).1 := by
  unfold setPortRole
  split
  next => exact .stay
  next hwork => exact .role q role caps hcaps hwork

theorem setReplyLimit_change {n : Nat} : Change A s (setReplyLimit p n s).1 :=
  .limit p (clampLimit n) (by simp only [clampLimit]; omega)

theorem configureLine_change {l : LineNo} {cfg : LineConfig}
    (hdepth : cfg.depth = 0 ∨ cfg.depth = 2 ∨ cfg.depth = 4 ∨ cfg.depth = 8) :
    Change A s (configureLine l cfg s).1 := by
  unfold configureLine
  split
  next => exact .stay
  next hok => exact .configured l cfg hdepth hok

theorem setLine_change {l : LineNo} {latch : Bool} : Change A s (Machine.setLine l latch s).1 := by
  unfold Machine.setLine
  split_ifs
  · exact .stay
  · split
    next => exact .stay
    next hfree => exact .latchSet l latch hfree

end Sys2Proof.Machine
end

section
/-! PROOF. Every command is a chain of changes: a request is one change and its reply, between link events; the events of the
clock, the lines and the links are chains of their own. -/

namespace Sys2Proof.Machine

variable {s t : State} {A : Taking} {p : Port} {k : Slot} {c : Comp} {tag index : Nat}

/-! ### The ranges of the arguments -/

theorem productOfArgs_legal {vs : List Nat} (h : fieldsFit defineProductFields [] vs = true) : (productOfArgs vs).legal := by
  have h1 := arg_mem_interval (n := 0) h rfl
  have h2 : 1 ≤ arg vs 2 ∧ arg vs 2 ≤ 15 := arg_mem_interval (n := 1) h rfl
  have h4 := arg_mem_interval (n := 3) h rfl
  have h5 := arg_mem_interval (n := 4) h rfl
  refine ⟨h1, ?_, h4.2, h5⟩
  simp only [productOfArgs, Fin.val_ofNat]
  omega

theorem rowLevels_le {vs : List Nat} (h : fieldsFit setMatrixRowFields [] vs = true) : ∀ n ∈ vs.drop 1, n ≤ 7 := by
  intro n hn
  obtain ⟨i, hi, rfl⟩ := List.mem_iff_getElem.1 hn
  have hlen : vs.length = 17 := length_of_fieldsFit h
  have hi16 : i < 16 := by simp at hi; omega
  have hfield : setMatrixRowFields[i + 1]? = some (field 1 0 7) := by
    rw [setMatrixRowFields, List.getElem?_cons_succ, List.getElem?_replicate, if_pos hi16]
  have := (arg_mem_interval h hfield).2
  have hlt : i + 1 < vs.length := by omega
  simpa [arg, Nat.add_comm, hlt] using this

theorem steps_legal : ∀ {n : Nat} {got vs : List Nat}, fieldsFit (stepsFields n) got vs = true →
    (stepsOfArgs n vs).length = n ∧ ∀ st ∈ stepsOfArgs n vs, st.legal
  | 0, _, _, _ => by simp [stepsOfArgs]
  | n + 1, got, [], h => by simp [stepsFields, stepFields, fieldsFit] at h
  | n + 1, got, [_], h => by simp [stepsFields, stepFields, fieldsFit] at h
  | n + 1, got, [_, _], h => by simp [stepsFields, stepFields, fieldsFit] at h
  | n + 1, got, [_, _, _], h => by simp [stepsFields, stepFields, fieldsFit] at h
  | n + 1, got, [_, _, _, _], h => by simp [stepsFields, stepFields, fieldsFit] at h
  | n + 1, got, a :: b :: d :: e :: f :: vs, h => by
    simp only [stepsFields, stepFields, List.cons_append, List.nil_append, fieldsFit, field, Bool.and_eq_true,
      decide_eq_true_eq] at h
    obtain ⟨-, ⟨-, -, htmin⟩, ⟨-, -, hfmin⟩, ⟨-, hdose⟩, ⟨-, hmax⟩, hrest⟩ := h
    obtain ⟨hlen, hall⟩ := steps_legal hrest
    refine ⟨by simp [stepsOfArgs, hlen], ?_⟩
    simp only [stepsOfArgs, List.drop_succ_cons, List.drop_zero, List.mem_cons, forall_eq_or_imp]
    exact ⟨⟨htmin, hfmin, hdose, hmax⟩, hall⟩

/-- The step count a DEFINE PROGRAM payload carries is the one its arguments hold, 1 to 6, and so many legal steps follow. -/
theorem programArgs_legal {payload : List Byte} {vs : List Nat}
    (h : checkPayload (defineProgramFields payload.length (programCount payload)) 2 payload = .ok vs) :
    (stepsOfArgs (arg vs 2) (vs.drop 2)).length ≤ 6 ∧ ∀ st ∈ stepsOfArgs (arg vs 2) (vs.drop 2), st.legal := by
  obtain ⟨hfit, hpayload⟩ := checkPayload_ok h
  match vs with
  | [] => simp [defineProgramFields, fieldsFit] at hfit
  | [_] => simp [defineProgramFields, fieldsFit] at hfit
  | level :: n :: rest =>
    have hcount : programCount payload = n % 256 := by
      rw [programCount, hpayload]
      simp [defineProgramFields, fieldArgs, field, beBytes]
    simp only [defineProgramFields, fieldsFit, Bool.and_eq_true, decide_eq_true_eq] at hfit
    obtain ⟨-, ⟨-, ⟨-, hn⟩, -⟩, hsteps⟩ := hfit
    rw [hcount, Nat.mod_eq_of_lt (by omega)] at hsteps
    obtain ⟨hlen, hall⟩ := steps_legal hsteps
    exact ⟨hlen.trans_le hn, hall⟩

theorem configOfArgs_depth {vs : List Nat} (h : fieldsFit configureLineFields [] vs = true) :
    (configOfArgs vs).depth = 0 ∨ (configOfArgs vs).depth = 2 ∨ (configOfArgs vs).depth = 4 ∨
      (configOfArgs vs).depth = 8 := by
  simpa [or_assoc, configOfArgs, arg] using (legal_of_fieldsFit (n := 3) h rfl).1

theorem setPortRole_caps {vs : List Nat} (h : fieldsFit setPortRoleFields [] vs = true) :
    roleOfArg (arg vs 2) ≠ .wash → capsOfCode (arg vs 3) = ⟨false, false, false⟩ := by
  intro hrole
  match vs with
  | [] | [_] | [_, _] | _ :: _ :: _ :: _ :: _ => simp [setPortRoleFields, fieldsFit] at h
  | [q, r, caps] =>
    simp only [setPortRoleFields, fieldsFit, Bool.and_eq_true, Bool.or_eq_true, beq_iff_eq] at h
    obtain ⟨-, -, ⟨-, -, hcaps | hwash⟩, -⟩ := h
    · simp [arg, hcaps, capsOfCode]
    · exact absurd (by simpa [roleOfArg, arg] using congrArg (Option.getD · .none) hwash) hrole

theorem exists_of_length_five : ∀ {vs : List Nat}, vs.length = 5 → ∃ a b c d e, vs = [a, b, c, d, e]
  | [a, b, c, d, e], _ => ⟨a, b, c, d, e, rfl⟩

/-! ### A request is one change -/

/-- What a request's owner leaves is one change of the state. -/
theorem State.owned_change {r : ReqName} {args : List Byte} (h : s.admits p r) :
    Change (theRequest r p args) s (s.owned r p args).1 := by
  have hargs : ∀ {a : Except Nat (List Nat)} {act : List Nat → State × Answer},
      (∀ vs, a = .ok vs → Change (theRequest r p args) s (act vs).1) →
      Change (theRequest r p args) s (withArgs a s act).1 := fun hact =>
    withArgs_induction (P := fun x => Change (theRequest r p args) s x.1) (fun _ _ => .stay) hact
  have hrole : permitted r (s.role p) = true := h.1
  cases r with
  | readStatus => exact .stay
  | readLines => exact .stay
  | setReplyLimit => exact setReplyLimit_change
  | readCompartment =>
    exact hargs fun _ _ => State.withComp_induction (P := fun x => Change _ s x.1) (fun _ _ => .stay) fun _ _ => .stay
  | readRecords => exact hargs fun _ _ => .stay
  | readQueue => exact hargs fun _ _ => .stay
  | setTime => exact hargs fun _ _ => .clock _
  | defineProduct => exact hargs fun _ hvs => defineProduct_change (productOfArgs_legal (checkLong_ok hvs).1)
  | deleteProduct => exact hargs fun _ _ => deleteProduct_change
  | setMatrixRow => exact hargs fun _ hvs => .matrixRow _ _ (rowLevels_le (checkLong_ok hvs).1)
  | defineProgram =>
    exact hargs fun _ hvs => .program _ _ (programArgs_legal hvs).1 (programArgs_legal hvs).2
  | setClassLimit =>
    exact hargs fun _ hvs => .classLimit _ _ (arg_mem_interval (n := 1) (checkLong_ok hvs).1 rfl)
      (arg_mem_interval (n := 2) (checkLong_ok hvs).1 rfl)
  | setPortRole => exact hargs fun _ hvs => setPortRole_change (setPortRole_caps (checkLong_ok hvs).1)
  | setAccessMap => exact hargs fun _ _ => .accessMap _ _
  | configureLine => exact hargs fun _ hvs => configureLine_change (configOfArgs_depth (checkLong_ok hvs).1)
  | lockLines => exact .locked
  | setLine => exact hargs fun _ _ => setLine_change
  | setProbeCalibration =>
    refine hargs fun _ hvs => .calibrated _ _ (arg_mem_interval (n := 0) (checkLong_ok hvs).1 rfl) ?_
    simpa [arg] using (legal_of_fieldsFit (n := 1) (checkLong_ok hvs).1 rfl).1
  | mapArm => exact hargs fun _ _ => mapArm_change
  | clearYard => exact .cleared
  | registerTanker =>
    unfold State.owned
    dsimp only
    split
    next => exact .stay
    next hok =>
      obtain ⟨htag, hcs, hcap⟩ := registerArgs_ok hok
      exact registerTanker_change htag hcs hcap
  | book => exact hargs fun _ _ => book_change
  | revoke => exact hargs fun _ _ => revoke_change
  | unblock => exact hargs fun _ _ => unblock_change
  | ackIncident => exact hargs fun _ _ => ackIncident_change
  | departTanker => exact hargs fun _ _ => departTanker_change
  | nextWork => exact nextWork_change (by simpa [permitted] using hrole)
  | stepStart => exact hargs fun _ _ => stepStart_change
  | washSample => exact hargs fun _ _ => washSample_change
  | giveBack => exact hargs fun _ _ => giveBack_change
  | undock => exact undock_change
  | inspectBegin => exact hargs fun _ _ => inspectBegin_change (by simpa [permitted] using hrole)
  | inspectResult =>
    refine hargs fun vs hvs => ?_
    obtain ⟨hfit, hbytes⟩ := checkLong_ok hvs
    have hlen : vs.length = 5 := length_of_fieldsFit hfit
    obtain ⟨tag, index, verdict, reported, ctag, rfl⟩ := exists_of_length_five hlen
    have hreported : reported < 65536 := (legal_of_fieldsFit (n := 3) hfit rfl).2
    refine inspectResult_change (fun hpass => ?_) (arg_mem_interval (n := 0) hfit rfl)
      (arg_mem_interval (n := 1) hfit rfl) (by simpa [permitted] using hrole) (Nat.le_of_lt_succ hreported)
      (arg_mem_interval (n := 4) hfit rfl)
    obtain rfl : verdict = 1 := by simpa [arg] using hpass
    exact ⟨rfl, rfl, hbytes.symm⟩
  | inspectCancel => exact hargs fun _ _ => inspectCancel_change
  | fillBegin =>
    refine hargs fun vs hvs => ?_
    obtain ⟨hfit, hbytes⟩ := checkLong_ok hvs
    have hlen : vs.length = 5 := length_of_fieldsFit hfit
    obtain ⟨tag, index, arm, product, ctag, rfl⟩ := exists_of_length_five hlen
    have harm : 1 ≤ arm ∧ arm ≤ 4 := arg_mem_interval (n := 2) hfit rfl
    have hproduct : 1 ≤ product ∧ product ≤ 9999 := arg_mem_interval (n := 3) hfit rfl
    have hnumber : (armOfNumber arm).val + 1 = arm := by simp only [armOfNumber, Fin.val_ofNat]; omega
    refine fillBegin_change ⟨rfl, rfl, ?_⟩ (arg_mem_interval (n := 0) hfit rfl)
      (arg_mem_interval (n := 1) hfit rfl) (by simpa [permitted] using hrole) hproduct.1
    simp only [arg, List.getD_cons_succ, List.getD_cons_zero, hnumber, Nat.add_one_sub_one, Nat.sub_self]
    exact hbytes.symm
  | fillVolume => exact hargs fun _ _ => fillVolume_change
  | fillResume => exact hargs fun _ _ => fillResume_change
  | fillEnd => exact hargs fun _ _ => fillEnd_change

/-! ### Chains of changes -/

/-- A chain of changes. -/
abbrev Changes (A : Taking) : State → State → Prop := Relation.ReflTransGen (Change A)

theorem flag_change (up : LinkFlags → LinkFlags) : Change A s (s.flag p up) := .link p (s.port p).rx _ id

theorem setRx_change {rx : Rx} (h : (s.port p).rx.legal → rx.legal) : Change A s (s.setRx p rx) :=
  .link p rx (s.port p).flags h

theorem reply_change {n : Nat} {a : Answer} : Change A s (s.reply p n a) :=
  .link p (.replying ⟨_, _⟩) noFlags fun _ => ⟨nofun, nofun⟩

theorem Rx.idle_legal : Rx.idle.legal := ⟨nofun, nofun⟩

theorem Rx.discard_legal (owed : Option Byte) : (Rx.discard owed).legal := ⟨nofun, nofun⟩

/-- A fault is flagged, and the port goes to DISCARD or IDLE. -/
theorem flag_setRx_changes (up : LinkFlags → LinkFlags) {rx : Rx} (h : rx.legal) :
    Changes A s ((s.flag p up).setRx p rx) :=
  .tail (.single (flag_change up)) (setRx_change fun _ => h)

theorem flag_linkReply_changes (up : LinkFlags → LinkFlags) (ty : Byte) :
    Changes A s ((s.flag p up).linkReply p ty) :=
  .tail (.single (flag_change up)) reply_change

/-- Every record that owes an advance takes it, one after the other. -/
theorem settleAll_changes : Changes A s s.settleAll := by
  have hfold : ∀ (ks : List Slot) (u : State), Changes A u (ks.foldl settleOne u) := by
    intro ks
    induction ks with
    | nil => exact fun u => .refl
    | cons k ks ih => exact fun u => .head settleOne_change (ih _)
  exact hfold _ s

theorem sampleLine_changes {l : LineNo} {high : Bool} : Changes A s (sampleLine l high s) := by
  unfold sampleLine
  split
  next => exact .tail (.single (.sampled l _)) levelEvent_change
  next => exact .single (.sampled l _)

/-! ### What a command does -/

/-- A request is carried out from `s` by the command `i`: from `s` itself, or from `s` with the port out of its frame. A long
request is the one the command carries (R174, R178). -/
structure Carried (i : Instr) (s : State) (r : ReqName) (p : Port) (args : List Byte) (u : State) : Prop where
  start : u = s ∨ u = s.setRx p .idle
  long : r.isShort = false → s.carries i r p args

/-- A complete frame with a right check is a request carried out, or is answered with LINK. -/
theorem decodeFrame_cases {ty : Byte} {args : List Byte} :
    (∃ r, ReqName.ofCode (ty.toNat % 128) = some r ∧ r.isShort = !isLong ty ∧
      s.decodeFrame p ty args = (s.setRx p .idle).carryOut r p args) ∨ Changes A s (s.decodeFrame p ty args) := by
  unfold State.decodeFrame
  split
  next r hr =>
    split_ifs with hform
    · exact .inl ⟨r, hr, hform, rfl⟩
    · exact .inr (flag_linkReply_changes _ _)
  next => exact .inr (flag_linkReply_changes _ _)

theorem code_of_ofCode {n : Nat} {r : ReqName} (h : ReqName.ofCode n = some r) : r.code = n := by
  simpa using List.find?_some h

/-- The type byte of a long frame is its code with bit 7 set (R174). -/
theorem typeByte_of_long {ty : Byte} {r : ReqName} (hr : ReqName.ofCode (ty.toNat % 128) = some r)
    (hlong : isLong ty = true) : ty = BitVec.ofNat 8 (r.code + 128) := by
  have hmsb : 128 ≤ ty.toNat := by
    have := BitVec.msb_eq_decide ty
    simpa [isLong, this] using hlong
  apply BitVec.eq_of_toNat_eq
  rw [code_of_ofCode hr, BitVec.toNat_ofNat]
  have := ty.isLt
  omega

/-- A complete long frame whose payload check is right is its type byte, length, header check, payload and payload check. -/
theorem longFrame_split {got : List Byte} {b : Byte} (hlen : 4 + statedLength got + 2 ≤ (got ++ [b]).length)
    (hcrc : (got ++ [b]).drop (4 + statedLength (got ++ [b])) =
      crc16Bytes (((got ++ [b]).drop 4).take (statedLength (got ++ [b])))) :
    ∃ (ty check : Byte) (payload : List Byte), (got ++ [b]).getD 0 0 = ty ∧
      ((got ++ [b]).drop 4).take (statedLength (got ++ [b])) = payload ∧
      got ++ [b] = ty :: beBytes 2 payload.length ++ [check] ++ payload ++ crc16Bytes payload := by
  match got with
  | [] | [_] | [_, _] | [_, _, _] | [_, _, _, _] =>
    simp only [List.length_append, List.length_cons, List.length_nil] at hlen
    omega
  | ty :: y :: z :: check :: x :: rest =>
    have hstated : statedLength ((ty :: y :: z :: check :: x :: rest) ++ [b]) = beValue [y, z] := rfl
    have hstated' : statedLength (ty :: y :: z :: check :: x :: rest) = beValue [y, z] := rfl
    rw [hstated] at hcrc ⊢
    rw [hstated'] at hlen
    simp only [List.cons_append, List.drop_succ_cons, List.drop_zero, List.length_cons, List.length_append,
      List.length_nil, Nat.add_comm 4] at hcrc hlen ⊢
    refine ⟨ty, check, _, rfl, rfl, ?_⟩
    have hpayload : ((x :: (rest ++ [b])).take (beValue [y, z])).length = beValue [y, z] := by
      simp; omega
    have hback : beBytes 2 (beValue [y, z]) = [y, z] := beBytes_beValue [y, z]
    rw [hpayload, hback, ← hcrc]
    simp only [List.cons_append, List.nil_append, List.take_append_drop]

/-- A byte received is a chain of link events, or completes a frame whose request is carried out. -/
theorem receiveByte_cases (p : Port) (b : Byte) (s : State) :
    (∃ r args u, Carried (.byteReceived p b) s r p args u ∧ receiveByte p b s = u.carryOut r p args) ∨
      Changes A s (receiveByte p b s) := by
  unfold receiveByte
  split
  next => exact .inr (.single (setRx_change fun _ => ⟨fun got hgot => by cases hgot; simp, nofun⟩))
  next got hgot =>
    split_ifs with hlen
    · refine .inr (.single (setRx_change fun _ => ⟨fun got' hgot' => ?_, nofun⟩))
      cases hgot'
      simp at hlen ⊢
      omega
    · unfold State.headerComplete
      split_ifs with hcrc hshort hlength
      · exact .inr (flag_setRx_changes _ (Rx.discard_legal _))
      · obtain ⟨r, -, hform, h⟩ | h := decodeFrame_cases (A := A) (s := s) (p := p)
          (ty := (got ++ [b]).getD 0 0) (args := ((got ++ [b]).drop 1).take 2)
        · exact .inl ⟨r, _, _, ⟨.inr rfl, fun hr => by simp_all⟩, h⟩
        · exact .inr h
      · exact .inr (flag_setRx_changes _ (Rx.discard_legal _))
      · refine .inr (.single (setRx_change fun hlegal => ⟨nofun, fun got' hgot' => ?_⟩))
        obtain ⟨h1, h3⟩ := hlegal.1 got hgot
        cases hgot'
        simp only [List.length_append, List.length_cons, List.length_nil] at hlen ⊢
        omega
  next got hgot =>
    split_ifs with hlen
    · refine .inr (.single (setRx_change fun hlegal => ⟨nofun, fun got' hgot' => ?_⟩))
      obtain ⟨h4, -, h1, h240⟩ := hlegal.2 got hgot
      cases hgot'
      have hstated : statedLength (got ++ [b]) = statedLength got := by
        match got, h4 with
        | _ :: _ :: _ :: _, _ => rfl
      rw [hstated]
      simp only [List.length_append, List.length_cons, List.length_nil] at hlen ⊢
      omega
    · unfold State.longComplete
      split_ifs with hcrc
      · exact .inr (flag_linkReply_changes _ _)
      · obtain ⟨ty, check, payload, hty, hpayload, hframe⟩ := longFrame_split (Nat.not_lt.1 hlen) (not_not.1 hcrc)
        rw [hty, hpayload]
        obtain ⟨r, hr, hform, h⟩ | h := decodeFrame_cases (A := A) (s := s) (p := p) (ty := ty) (args := payload)
        · refine .inl ⟨r, _, _, ⟨.inr rfl, fun hshort => .inr ⟨got, b, check, rfl, hgot, ?_⟩⟩, h⟩
          rw [← typeByte_of_long hr (by simpa [hshort] using hform)]
          exact hframe
        · exact .inr h
  next => exact .inr .refl
  next => exact .inr (.single (flag_change _))

theorem receiveBreak_changes : Changes A s (receiveBreak p s) := by
  unfold receiveBreak
  split
  next => exact flag_setRx_changes _ (Rx.discard_legal _)
  next => exact flag_setRx_changes _ (Rx.discard_legal _)
  next => exact flag_setRx_changes _ (Rx.discard_legal _)
  next => exact .single (flag_change _)
  next => exact .tail (.single (flag_change _)) (flag_change _)

theorem receiveGap_changes : Changes A s (receiveGap p s) := by
  unfold receiveGap
  split
  next => exact flag_setRx_changes _ Rx.idle_legal
  next => exact flag_setRx_changes _ Rx.idle_legal
  all_goals exact .refl

theorem endDiscard_changes : Changes A s (endDiscard p s) := by
  unfold endDiscard
  split
  next => exact .single (setRx_change fun _ => Rx.idle_legal)
  next => exact .single reply_change
  all_goals exact .refl

theorem endReply_changes : Changes A s (endReply p s) := by
  unfold endReply
  split
  next =>
    split_ifs
    · exact .single (setRx_change fun _ => Rx.discard_legal _)
    · exact .single (setRx_change fun _ => Rx.idle_legal)
  all_goals exact .refl

/-- Every command is a request carried out, or a chain of changes that carries none out. -/
theorem exec_cases {i : Instr} (h : exec i s = .next t) :
    (∃ r p args u, Carried i s r p args u ∧ t = u.carryOut r p args) ∨ Changes noRequest s t := by
  cases hi : i.request? with
  | some x =>
    obtain ⟨r, p, args⟩ := x
    rw [exec_request s hi] at h
    exact .inl ⟨r, p, args, s, ⟨.inl rfl, fun _ => .inl (eq_command_of_request hi)⟩, (Host.Outcome.next.inj h).symm⟩
  | none =>
    have hevent : ∀ u, exec i s = .next u → Changes noRequest s u → Changes noRequest s t := fun u hu hs =>
      Host.Outcome.next.inj (hu.symm.trans h) ▸ hs
    cases i with
    | hardwareReset => exact .inr (hevent _ rfl (.single .reset))
    | yardClockAdvance => exact .inr (hevent _ rfl (.tail settleAll_changes .advanced))
    | silenceExpiry k => exact .inr (hevent _ rfl (.single expireIf_change))
    | activeTimeExpiry k => exact .inr (hevent _ rfl (.single expireIf_change))
    | releaseExpiry k => exact .inr (hevent _ rfl (.single expireIf_change))
    | inputSample l high => exact .inr (hevent _ rfl sampleLine_changes)
    | analogConversion l raw =>
      exact .inr (hevent _ rfl (.single (.converted l raw.toNat (by have := raw.isLt; omega))))
    | byteReceived p b =>
      obtain rfl := Host.Outcome.next.inj h
      obtain ⟨r, args, u, hu, ht⟩ | hs := receiveByte_cases (A := noRequest) p b s
      · exact .inl ⟨r, p, args, u, hu, ht⟩
      · exact .inr hs
    | breakReceived p => exact .inr (hevent _ rfl receiveBreak_changes)
    | gap p => exact .inr (hevent _ rfl receiveGap_changes)
    | discardEnd p => exact .inr (hevent _ rfl endDiscard_changes)
    | replySent p => exact .inr (hevent _ rfl endReply_changes)
    | _ => simp [Instr.request?] at hi

/-- Carrying out a request is a chain of changes that carries out that request. -/
theorem carryOut_changes {r : ReqName} {args : List Byte} : Changes (theRequest r p args) s (s.carryOut r p args) := by
  obtain ⟨hadmits, h⟩ | ⟨-, h | h⟩ := State.carryOut_cases s r p args <;> rw [h]
  · exact .tail (.single (State.owned_change hadmits)) reply_change
  · exact .single reply_change
  · exact .single reply_change

/-- Every command is a chain of changes. -/
theorem exec_changes {i : Instr} (h : exec i s = .next t) : ∃ A, Changes A s t := by
  obtain ⟨r, p, args, u, ⟨rfl | rfl, -⟩, rfl⟩ | hs := exec_cases h
  · exact ⟨_, carryOut_changes⟩
  · exact ⟨_, .head (setRx_change fun _ => Rx.idle_legal) carryOut_changes⟩
  · exact ⟨_, hs⟩

/-- An invariant that every change keeps, and that does not speak of the commands that wait, is kept by every step. -/
theorem step_induction {P : State → Prop} (hpending : ∀ (s : State) (cs : List Instr), P s → P { s with pending := cs })
    (hchange : ∀ (A : Taking) (s t : State), P s → Change A s t → P t) (hs : P s) (h : step s = .next t) : P t := by
  have hchain : ∀ (A : Taking) (u v : State), P u → Changes A u v → P v := fun A u v hu huv => by
    induction huv with
    | refl => exact hu
    | tail _ hstep ih => exact hchange A _ _ ih hstep
  unfold step at h
  split at h
  next => exact Host.Outcome.next.inj h ▸ hs
  next i rest hrest =>
    obtain ⟨A, hA⟩ := exec_changes h
    exact hchain A _ _ (hpending s rest hs) hA

end Sys2Proof.Machine
end

section
/-! PROOF. What a change leaves of the tables: the tankers, the slots, the tag and index of every record (R1, R2). -/

namespace Sys2Proof.Machine

variable {s t : State} {A : Taking} {k : Slot} {c c' : Comp}

/-! ### The outline of a record -/

/-- All that reaching a record can do (R131): it counts, or owes the advance that brings its expiry. -/
theorem Comp.reached_cases (c : Comp) :
    c.nextExpiry = none ∧ c.reached = c.counted ∨
    (∃ e, c.nextExpiry = some e) ∧ c.reached = { c with advanceDue := true } := by
  unfold Comp.reached
  split
  next h => exact .inl ⟨h, rfl⟩
  next e h => exact .inr ⟨⟨e, h⟩, rfl⟩

@[simp] theorem Comp.reached_entry : c.reached.entry = c.entry := by
  obtain ⟨-, h⟩ | ⟨-, h⟩ := c.reached_cases <;> rw [h]
  · simp [Comp.entry]
  · rfl

theorem Comp.caughtUp_entry (c : Comp) : c.caughtUp.entry = c.entry := by
  obtain ⟨h, -⟩ | ⟨h, -⟩ := c.caughtUp_cases <;> rw [h]
  simp [Comp.entry]

theorem Replanned.entry (h : Replanned c c') : c'.entry = c.entry := by
  cases h <;> rfl

theorem endedFill_entry {b : Booking} {p : Port} {f : Fill} {n : Nat} : (s.endedFill c b p f n).entry = c.entry := by
  unfold State.endedFill
  split_ifs
  · simp [Comp.entry, State.loadComp]
  · rfl

/-- A record keeps its tag and index whatever a command does to it. -/
theorem Move.entry (h : Move A s k c c') : c'.entry = c.entry := by
  cases h with
  | forbidden hc | planned hc | levelZero _ hc => exact hc.entry
  | sampled => exact Comp.caughtUp_entry _
  | fillEnded => exact endedFill_entry
  | reached => exact Comp.reached_entry
  | caughtUp => simp [Comp.entry]
  | fillRevoked | inspectionBlocked | tagRefused | halted | overrunBlocked | expired => simp [Comp.entry, State.loadComp]
  | _ => rfl

theorem Move.tag (h : Move A s k c c') : c'.tag = c.tag := congrArg Entry.tag h.entry

theorem Move.index (h : Move A s k c c') : c'.index = c.index := congrArg Entry.index h.entry

/-! ### Reading the tables after registering, departing and clearing -/

/-- Making records changes the compartment table alone. -/
theorem makeComps_frame (t : TankerSlot) (tag : Nat) : ∀ (cs : List (Nat × Nat)) (i : Nat) (u : State),
    makeComps t tag i cs u = { u with comps := (makeComps t tag i cs u).comps }
  | [], _, _ => rfl
  | (cap, last) :: rest, i, u => by
    rw [makeComps, makeComps_frame t tag rest]
    rfl

/-- The records made stand in the slots R2 gives them; every other slot is as it was. -/
theorem makeComps_compAt (t : TankerSlot) (tag : Nat) : ∀ (cs : List (Nat × Nat)) (i : Nat) (u : State) (k : Slot),
    1 ≤ i → i + cs.length ≤ 7 →
    (∀ j x, cs[j]? = some x → k = compSlot t (i + j) →
      (makeComps t tag i cs u).compAt k = some (newComp tag (i + j) x.1 (u.lastOf x.2))) ∧
    ((∀ j, j < cs.length → k ≠ compSlot t (i + j)) → (makeComps t tag i cs u).compAt k = u.compAt k)
  | [], _, _, _, _, _ => ⟨fun j x h => by simp at h, fun _ => rfl⟩
  | (cap, last) :: rest, i, u, k, hi, hlen => by
    simp only [List.length_cons] at hlen
    obtain ⟨hmade, hother⟩ := makeComps_compAt t tag rest (i + 1)
      (u.setComp (compSlot t i) (newComp tag i cap (u.lastOf last))) k (by omega) (by omega)
    rw [makeComps]
    refine ⟨fun j x hx hk => ?_, fun hk => ?_⟩
    · cases j with
      | zero =>
        obtain rfl : (cap, last) = x := by simpa using hx
        rw [Nat.add_zero] at hk ⊢
        have hrest : ∀ j, j < rest.length → k ≠ compSlot t (i + 1 + j) := fun j hj heq => by
          have := (compSlot_inj (by omega) (by omega) (by omega) (by omega) (hk.symm.trans heq)).2
          omega
        rw [hother hrest, hk, State.compAt_setComp_self]
        rfl
      | succ j =>
        have hshift : i + (j + 1) = i + 1 + j := by omega
        rw [hshift] at hk ⊢
        exact hmade j x (by simpa using hx) hk
    · rw [hother, State.compAt_setComp, if_neg]
      · exact hk 0 (by simp)
      · intro j hj
        have := hk (j + 1) (by simp; omega)
        rwa [Nat.add_comm j 1, ← Nat.add_assoc] at this

/-- The new tanker's slots hold its new records, the others what they held. -/
theorem registered_compAt {tag : Nat} {cs : List (Nat × Nat)} {u : TankerSlot} {x : Tanker} (hcs : cs.length ≤ 6)
    (v : TankerSlot) (j : Fin 6) :
    (makeComps u tag 1 cs (s.setTanker u (some x))).compAt (compSlot v (j.val + 1)) =
      if v = u ∧ j.val < cs.length then
        cs[j.val]?.map fun y => newComp tag (j.val + 1) y.1 (s.lastOf y.2)
      else s.compAt (compSlot v (j.val + 1)) := by
  obtain ⟨hmade, hother⟩ := makeComps_compAt u tag cs 1 (s.setTanker u (some x)) (compSlot v (j.val + 1)) (by omega)
    (by omega)
  split_ifs with h
  · obtain ⟨rfl, hj⟩ := h
    rw [List.getElem?_eq_getElem hj, hmade j.val cs[j.val] (List.getElem?_eq_getElem hj) (by rw [Nat.add_comm]),
      Nat.add_comm]
    rfl
  · refine hother fun i hi heq => h ?_
    obtain ⟨huv, hij⟩ := compSlot_inj (by omega) (by omega) (by omega) (by omega) heq
    exact ⟨huv, by omega⟩

theorem registered_tankerAt {tag : Nat} {cs : List (Nat × Nat)} {u : TankerSlot} {x : Tanker} (v : TankerSlot) :
    (makeComps u tag 1 cs (s.setTanker u (some x))).tankerAt v = if v = u then some x else s.tankerAt v := by
  rw [makeComps_frame]
  exact State.tankerAt_setTanker ..

/-- The slots of a tanker that departs are free; every other slot is as it was (R17). -/
theorem State.freeTankerSlot_compAt (u v : TankerSlot) (j : Fin 6) :
    (s.freeTankerSlot u).compAt (compSlot v (j.val + 1)) = if v = u then none else s.compAt (compSlot v (j.val + 1)) := by
  have hslot : ∀ i : Fin 6, compSlot v (j.val + 1) = compSlot u (i.val + 1) ↔ v = u ∧ j = i := fun i => by
    constructor
    · intro h
      obtain ⟨hv, hj⟩ := compSlot_inj (by omega) (by omega) (by omega) (by omega) h
      exact ⟨hv, Fin.ext (by omega)⟩
    · rintro ⟨rfl, rfl⟩
      rfl
  have h0 := hslot 0
  have h1 := hslot 1
  have h2 := hslot 2
  have h3 := hslot 3
  have h4 := hslot 4
  have h5 := hslot 5
  simp only [Fin.val_zero, Fin.val_one, Fin.val_two, Fin.isValue, show (3 : Fin 6).val = 3 from rfl,
    show (4 : Fin 6).val = 4 from rfl, show (5 : Fin 6).val = 5 from rfl, Nat.reduceAdd] at h0 h1 h2 h3 h4 h5
  simp only [State.freeTankerSlot, State.compAt_freeComp, State.setTanker_compAt, h0, h1, h2, h3, h4, h5]
  by_cases hv : v = u
  · subst hv
    fin_cases j <;> simp
  · simp [hv]

theorem State.freeTankerSlot_tankerAt (u v : TankerSlot) :
    (s.freeTankerSlot u).tankerAt v = if v = u then none else s.tankerAt v :=
  State.tankerAt_setTanker ..

@[simp] theorem resetTankers_get (u : TankerSlot) : resetTankers[u] = none := by
  simp [resetTankers]

@[simp] theorem resetComps_get (k : Slot) : resetComps[k] = none := by
  simp [resetComps]

theorem clearYard_compAt (k : Slot) : (clearYard s).1.compAt k = none := resetComps_get k

theorem clearYard_tankerAt (u : TankerSlot) : (clearYard s).1.tankerAt u = none := resetTankers_get u

theorem State.advanced_compAt (k : Slot) : s.advanced.compAt k = (s.compAt k).map Comp.reached := by
  simp [State.compAt, State.advanced]

theorem State.handOut_compAt {p : Port} {docked : Bool} {w : Work} (k : Slot) :
    (s.handOut p docked w).compAt k =
      if k = w.found.slot then some (w.found.comp.withSt (.washing w.booking w.plan p .between)) else s.compAt k := by
  unfold State.handOut
  split_ifs <;> simp_all [State.compAt_setComp]

theorem State.handOut_tankerAt {p : Port} {docked : Bool} {w : Work} (u : TankerSlot) :
    (s.handOut p docked w).tankerAt u =
      if docked = false ∧ u = w.found.tslot then some { w.found.tanker with docked := some p } else s.tankerAt u := by
  unfold State.handOut
  split_ifs <;> simp_all [State.tankerAt_setTanker]

/-- The work that NEXT WORK hands out: an entry that finds a QUEUED compartment. -/
theorem State.firstWork_some {p : Port} {dock : Option (TankerSlot × Tanker)} {w : Work} (h : s.firstWork p dock = some w) :
    ∃ e ∈ s.queue, s.find e.tag e.index = some w.found ∧ w.found.comp.st = .queued w.booking w.plan ∧
      w.found.suitsDock dock := by
  obtain ⟨e, he, hw⟩ := List.exists_of_findSome?_eq_some h
  obtain ⟨hfind, hst, hdock, -⟩ := State.eligible_eq_some.1 hw
  exact ⟨e, he, hfind, hst, hdock⟩

/-! ### What a change does to a record -/

/-- Line configuration leaves the compartment table. -/
theorem configured_compAt {l : LineNo} {x : Line} {f g : Option Func} (k : Slot) :
    (((s.endBinding f).setLine l x).beginBinding g).compAt k = s.compAt k := by
  unfold State.beginBinding State.endBinding
  split <;> split <;> rfl

theorem configured_tankerAt {l : LineNo} {x : Line} {f g : Option Func} (u : TankerSlot) :
    (((s.endBinding f).setLine l x).beginBinding g).tankerAt u = s.tankerAt u := by
  unfold State.beginBinding State.endBinding
  split <;> split <;> rfl

theorem convertLine_compAt {l : LineNo} {raw : Nat} (k : Slot) : (convertLine l raw s).compAt k = s.compAt k := by
  unfold convertLine
  split_ifs
  · split <;> rfl
  · rfl

theorem convertLine_tankerAt {l : LineNo} {raw : Nat} (u : TankerSlot) :
    (convertLine l raw s).tankerAt u = s.tankerAt u := by
  unfold convertLine
  split_ifs
  · split <;> rfl
  · rfl

/-- The records REGISTER TANKER makes, with a capacity in range and a last product that is listed, CLEAN or unknown (R14,
R15). -/
inductive NewRecord (s : State) : Comp → Prop
  | made (tag index capacity last : Nat) (hcap : 500 ≤ capacity ∧ capacity ≤ 20000) (hknown : s.unknownCode last = false) :
      NewRecord s (newComp tag index capacity (s.lastOf last))

/-- All that a change makes of the records and the tankers. -/
inductive Effect (A : Taking) (s t : State) : Prop
  | same (hk : ∀ k, t.compAt k = s.compAt k) (hu : ∀ u, t.tankerAt u = s.tankerAt u) : Effect A s t
  | moved (k : Slot) (c c' : Comp) (hc : s.compAt k = some c) (hm : Move A s k c c')
      (hk : ∀ j, t.compAt j = if j = k then some c' else s.compAt j) (hu : ∀ u, t.tankerAt u = s.tankerAt u)
      (hstay : c'.st.holder = none ∨ c'.st.queuedAs = c.st.queuedAs) : Effect A s t
  | handedOut (p : Port) (w : Work) (hp : s.role p = .wash) (hroom : (s.heldBy p).length < 2)
      (hw : s.firstWork p (s.dockedTanker p) = some w) (ht : t = s.handOut p (s.dockedTanker p).isSome w) : Effect A s t
  | undocked (p : Port) (u : TankerSlot) (x : Tanker) (hx : s.dockedTanker p = some (u, x)) (hheld : s.heldBy p = [])
      (ht : t = s.setTanker u (some { x with docked := none })) : Effect A s t
  | reached (hk : ∀ k, t.compAt k = (s.compAt k).map Comp.reached) (hu : ∀ u, t.tankerAt u = s.tankerAt u) : Effect A s t
  | registered (tag : Nat) (cs : List (Nat × Nat)) (u : TankerSlot) (htag : 1 ≤ tag ∧ tag ≤ 65535)
      (hcs : 1 ≤ cs.length ∧ cs.length ≤ 6) (hcap : ∀ x ∈ cs, 500 ≤ x.1 ∧ x.1 ≤ 20000) (hnew : s.findTanker tag = none)
      (hfree : s.freeTanker = some u) (hknown : ∀ x ∈ cs, s.unknownCode x.2 = false)
      (ht : t = makeComps u tag 1 cs
        (s.setTanker u (some { tag := tag, count := cs.length, arrival := s.clock, docked := none }))) : Effect A s t
  | departed (tag : Nat) (u : TankerSlot) (x : Tanker) (hx : s.findTanker tag = some (u, x))
      (ht : t = ((s.dequeueTanker tag).freeTankerSlot u).driveLatches) : Effect A s t
  | emptied (hk : ∀ k, t.compAt k = none) (hu : ∀ u, t.tankerAt u = none) : Effect A s t

theorem Change.effect (h : Change A s t) : Effect A s t := by
  cases h with
  | record k c d hc hm hq => exact .moved k c d hc hm (fun _ => State.compAt_setComp ..) (fun _ => rfl) (.inr hq)
  | driven k c d hc hm hq => exact .moved k c d hc hm (fun _ => State.compAt_setComp ..) (fun _ => rfl) (.inr hq)
  | left k c d _ hc hm _ _ hheld => exact .moved k c d hc hm (fun _ => State.compAt_setComp ..) (fun _ => rfl) (.inl hheld)
  | joined k c d b pl hc hm => exact .moved k c _ hc hm (fun _ => State.compAt_enqueueTail ..) (fun _ => rfl) (.inl rfl)
  | moved k c b pl _ hc hm => exact .moved k c _ hc hm (fun _ => State.compAt_enqueueTail ..) (fun _ => rfl) (.inl rfl)
  | returned k c b pl hc hm => exact .moved k c _ hc hm (fun _ => State.compAt_enqueueHead ..) (fun _ => rfl) (.inl rfl)
  | handedOut p w hp hroom hw => exact .handedOut p w hp hroom hw rfl
  | undocked p u x hx hheld => exact .undocked p u x hx hheld rfl
  | advanced => exact .reached State.advanced_compAt fun _ => rfl
  | registered tag cs u htag hcs hcap hnew hfree hknown =>
    exact .registered tag cs u htag hcs hcap hnew hfree hknown rfl
  | departed tag u x hx => exact .departed tag u x hx rfl
  | cleared => exact .emptied (fun _ => clearYard_compAt _) fun _ => clearYard_tankerAt _
  | reset => exact .emptied resetComps_get resetTankers_get
  | configured => exact .same configured_compAt configured_tankerAt
  | converted => exact .same (fun _ => convertLine_compAt _) fun _ => convertLine_tankerAt _
  | _ => exact .same (fun _ => rfl) fun _ => rfl

/-- A record that stands after a change stood before it, or came of one by a move, or is new. -/
theorem Change.compAt_cases (h : Change A s t) {k : Slot} {c' : Comp} (hk : t.compAt k = some c') :
    s.compAt k = some c' ∨ (∃ c, s.compAt k = some c ∧ Move A s k c c') ∨ NewRecord s c' := by
  cases h.effect with
  | same hsame => exact .inl (hsame k ▸ hk)
  | moved j c d hc hm hset =>
    rw [hset] at hk
    split_ifs at hk with hkj
    · cases hk
      exact .inr (.inl ⟨c, hkj ▸ hc, hkj ▸ hm⟩)
    · exact .inl hk
  | handedOut p w hp hroom hw ht =>
    obtain ⟨e, -, hfind, hst, -⟩ := State.firstWork_some hw
    rw [ht, State.handOut_compAt] at hk
    split_ifs at hk with hkj
    · cases hk
      exact .inr (.inl ⟨_, hkj ▸ State.find_compAt hfind, .handedOut hst hp⟩)
    · exact .inl hk
  | undocked p u x _ _ ht => rw [ht] at hk; exact .inl hk
  | reached hreached =>
    rw [hreached, Option.map_eq_some_iff] at hk
    obtain ⟨c, hc, rfl⟩ := hk
    exact .inr (.inl ⟨c, hc, .reached⟩)
  | registered tag cs u htag hcs hcap hnew hfree hknown ht =>
    obtain ⟨v, j, rfl⟩ := exists_compSlot k
    rw [ht, registered_compAt hcs.2] at hk
    split_ifs at hk with hnew
    · rw [Option.map_eq_some_iff] at hk
      obtain ⟨x, hx, rfl⟩ := hk
      have hmem := List.mem_of_getElem? hx
      exact .inr (.inr (.made tag _ x.1 x.2 (hcap x hmem) (hknown x hmem)))
    · exact .inl hk
  | departed tag u x hx ht =>
    obtain ⟨v, j, rfl⟩ := exists_compSlot k
    rw [ht, State.driveLatches_compAt, State.freeTankerSlot_compAt] at hk
    split_ifs at hk
    exact .inl hk
  | emptied hnone => exact absurd ((hnone k).symm.trans hk) nofun

/-- What every new record has, every move keeps and no table it speaks of loses, holds of every record after a change. -/
theorem Change.records_induction {P Q : Comp → Prop} (h : Change A s t) (hs : ∀ k c, s.compAt k = some c → P c)
    (hsame : ∀ k c, s.compAt k = some c → P c → Q c)
    (hmove : ∀ k c c', s.compAt k = some c → P c → Move A s k c c' → Q c')
    (hnew : ∀ c, NewRecord s c → Q c) :
    ∀ k c, t.compAt k = some c → Q c := by
  intro k c' hk
  obtain hc | ⟨c, hc, hm⟩ | hmade := h.compAt_cases hk
  · exact hsame k c' hc (hs k c' hc)
  · exact hmove k c c' hc (hs k c hc) hm
  · exact hnew c' hmade

/-! ### The tables stay in agreement -/

/-- What the tables have to agree on: the tag and count of every tanker, the tag and index of every record. -/
def State.sameOutline (s t : State) : Prop :=
  (∀ u, (t.tankerAt u).map (fun x => (x.tag, x.count)) = (s.tankerAt u).map fun x => (x.tag, x.count)) ∧
  ∀ k, (t.compAt k).map Comp.entry = (s.compAt k).map Comp.entry

theorem State.sameOutline_of_set {k : Slot} (hc : s.compAt k = some c) (he : c'.entry = c.entry)
    (hu : ∀ u, t.tankerAt u = s.tankerAt u) (hk : ∀ j, t.compAt j = if j = k then some c' else s.compAt j) :
    s.sameOutline t := by
  refine ⟨fun u => by rw [hu], fun j => ?_⟩
  rw [hk]
  split_ifs with h
  · rw [h, hc, Option.map_some, Option.map_some, he]
  · rfl

/-- A change keeps the outline of the tables, but for a tanker that is registered or departs, and an empty yard. -/
theorem Change.outline (h : Change A s t) :
    s.sameOutline t ∨ ((∀ u, t.tankerAt u = none) ∧ ∀ k, t.compAt k = none) ∨
    (∃ tag cs u, (1 ≤ tag ∧ tag ≤ 65535) ∧ (1 ≤ cs.length ∧ cs.length ≤ 6) ∧ s.findTanker tag = none ∧
      s.freeTanker = some u ∧
      t = makeComps u tag 1 cs
        (s.setTanker u (some { tag := tag, count := cs.length, arrival := s.clock, docked := none }))) ∨
    ∃ tag u x, s.findTanker tag = some (u, x) ∧ t = ((s.dequeueTanker tag).freeTankerSlot u).driveLatches := by
  cases h.effect with
  | same hk hu => exact .inl ⟨fun u => by rw [hu], fun k => by rw [hk]⟩
  | moved k c d hc hm hk hu => exact .inl (State.sameOutline_of_set hc hm.entry hu hk)
  | handedOut p w hp hroom hw ht =>
    obtain ⟨e, -, hfind, -, -⟩ := State.firstWork_some hw
    refine .inl ⟨fun u => ?_, fun j => ?_⟩
    · rw [ht, State.handOut_tankerAt]
      split_ifs with hu
      · rw [hu.2, State.find_tankerAt hfind]; rfl
      · rfl
    · rw [ht, State.handOut_compAt]
      split_ifs with hj
      · rw [hj, State.find_compAt hfind]; rfl
      · rfl
  | undocked p u x hx _ ht =>
    refine .inl ⟨fun v => ?_, fun _ => by rw [ht]; rfl⟩
    rw [ht, State.tankerAt_setTanker]
    split_ifs with hv
    · rw [hv, (State.dockedTanker_some hx).1]; rfl
    · rfl
  | reached hk hu =>
    refine .inl ⟨fun u => by rw [hu], fun j => ?_⟩
    rw [hk, Option.map_map]
    cases s.compAt j <;> simp
  | registered tag cs u htag hcs _ hnew hfree _ ht => exact .inr (.inr (.inl ⟨tag, cs, u, htag, hcs, hnew, hfree, ht⟩))
  | departed tag u x hx ht => exact .inr (.inr (.inr ⟨tag, u, x, hx, ht⟩))
  | emptied hk hu => exact .inr (.inl ⟨hu, hk⟩)

theorem State.sameOutline.tanker (h : s.sameOutline t) {u : TankerSlot} {x : Tanker} (hx : t.tankerAt u = some x) :
    ∃ y, s.tankerAt u = some y ∧ y.tag = x.tag ∧ y.count = x.count := by
  have := h.1 u
  rw [hx, Option.map_some] at this
  obtain ⟨y, hy, heq⟩ := Option.map_eq_some_iff.1 this.symm
  exact ⟨y, hy, congrArg Prod.fst heq, congrArg Prod.snd heq⟩

theorem State.sameOutline.compAt_eq_none (h : s.sameOutline t) {k : Slot} : t.compAt k = none ↔ s.compAt k = none := by
  rw [← Option.map_eq_none_iff (f := Comp.entry), h.2, Option.map_eq_none_iff]

theorem State.sameOutline.tablesAgree (h : s.sameOutline t) (hs : s.tablesAgree) : t.tablesAgree := by
  obtain ⟨hfree, hoccupied, hunique⟩ := hs
  refine ⟨fun u hu j => ?_, fun u x hx => ?_, fun u v x y hx hy htag => ?_⟩
  · have hnone : s.tankerAt u = none := by
      have := h.1 u
      rw [hu, Option.map_none] at this
      exact Option.map_eq_none_iff.1 this.symm
    exact h.compAt_eq_none.2 (hfree u hnone j)
  · obtain ⟨y, hy, htag, hcount⟩ := h.tanker hx
    obtain ⟨hrange, hcounts, hslots⟩ := hoccupied u y hy
    rw [← htag, ← hcount]
    refine ⟨hrange, hcounts, fun j => ⟨fun hj => ?_, fun hj => h.compAt_eq_none.2 ((hslots j).2 hj)⟩⟩
    obtain ⟨c, hc, hctag, hcindex⟩ := (hslots j).1 hj
    have := h.2 (compSlot u (j.val + 1))
    rw [hc, Option.map_some] at this
    obtain ⟨d, hd, hentry⟩ := Option.map_eq_some_iff.1 this
    exact ⟨d, hd, (congrArg Entry.tag hentry).trans hctag, (congrArg Entry.index hentry).trans hcindex⟩
  · obtain ⟨x', hx', hxtag, -⟩ := h.tanker hx
    obtain ⟨y', hy', hytag, -⟩ := h.tanker hy
    exact hunique u v x' y' hx' hy' (by rw [hxtag, hytag, htag])

theorem State.freeTanker_some {u : TankerSlot} (h : s.freeTanker = some u) : s.tankerAt u = none := by
  simpa using List.find?_some h

/-- Every change keeps the tables in agreement (R1, R2). -/
theorem Change.tablesAgree (h : Change A s t) (hs : s.tablesAgree) : t.tablesAgree := by
  obtain hsame | ⟨hu, hk⟩ | ⟨tag, cs, w, htag, hcs, hnew, hw, rfl⟩ | ⟨tag, w, x, hx, rfl⟩ := h.outline
  · exact hsame.tablesAgree hs
  · exact ⟨fun _ _ _ => hk _, fun u x hx => absurd ((hu u).symm.trans hx) nofun,
      fun u v x y hx => absurd ((hu u).symm.trans hx) nofun⟩
  · obtain ⟨hfree, hoccupied, hunique⟩ := hs
    have htags := State.findTanker_eq_none.1 hnew
    refine ⟨fun u hu j => ?_, fun u x hx => ?_, fun u v x y hx hy hxy => ?_⟩
    · rw [registered_tankerAt] at hu
      split_ifs at hu with huw
      rw [registered_compAt hcs.2, if_neg fun h => huw h.1]
      exact hfree u hu j
    · rw [registered_tankerAt] at hx
      split_ifs at hx with huw
      · cases hx
        refine ⟨htag, hcs, fun j => ?_⟩
        rw [registered_compAt hcs.2]
        refine ⟨fun hj => ?_, fun hj => ?_⟩
        · rw [if_pos ⟨huw, hj⟩, List.getElem?_eq_getElem hj]
          exact ⟨_, rfl, rfl, rfl⟩
        · rw [if_neg fun h => Nat.not_lt.2 hj h.2]
          exact hfree u (huw ▸ State.freeTanker_some hw) j
      · obtain ⟨hrange, hcounts, hslots⟩ := hoccupied u x hx
        refine ⟨hrange, hcounts, fun j => ?_⟩
        rw [registered_compAt hcs.2, if_neg fun h => huw h.1]
        exact hslots j
    · rw [registered_tankerAt] at hx hy
      split_ifs at hx hy with huw hvw hvw
      · exact huw.trans hvw.symm
      · cases hx
        exact absurd hxy.symm (htags v y hy)
      · cases hy
        exact absurd hxy (htags u x hx)
      · exact hunique u v x y hx hy hxy
  · obtain ⟨hfree, hoccupied, hunique⟩ := hs
    have htanker : ∀ u, ((s.dequeueTanker tag).freeTankerSlot w).driveLatches.tankerAt u =
        if u = w then none else s.tankerAt u := State.freeTankerSlot_tankerAt w
    have hcomp : ∀ u (j : Fin 6), ((s.dequeueTanker tag).freeTankerSlot w).driveLatches.compAt (compSlot u (j.val + 1)) =
        if u = w then none else s.compAt (compSlot u (j.val + 1)) := State.freeTankerSlot_compAt w
    refine ⟨fun u hu j => ?_, fun u x hx => ?_, fun u v x y hx hy hxy => ?_⟩
    · rw [hcomp]
      rw [htanker] at hu
      split_ifs at hu ⊢ with huw
      · rfl
      · exact hfree u hu j
    · rw [htanker] at hx
      split_ifs at hx with huw
      obtain ⟨hrange, hcounts, hslots⟩ := hoccupied u x hx
      refine ⟨hrange, hcounts, fun j => ?_⟩
      rw [hcomp, if_neg huw]
      exact hslots j
    · rw [htanker] at hx hy
      split_ifs at hx hy
      exact hunique u v x y hx hy hxy

end Sys2Proof.Machine
end

section
/-! PROOF. Every step keeps the planner's tables in range and every product a record names in the catalogue (R24, R25, R28,
R30, R32). -/

namespace Sys2Proof.Machine

variable {s t : State} {A : Taking} {k : Slot} {c c' : Comp}

/-! ### The catalogue -/

/-- The entry of a code in a catalogue. -/
theorem State.product_mem {code : Nat} {e : Product} (h : s.product? code = some e) : e ∈ s.catalogue ∧ e.code = code :=
  ⟨List.mem_of_find?_eq_some h, by simpa using List.find?_some h⟩

theorem mem_putProduct {e x : Product} : ∀ {l : List Product}, x ∈ putProduct e l → x = e ∨ x ∈ l
  | [], h => .inl (by simpa [putProduct] using h)
  | y :: ys, h => by
    rw [putProduct] at h
    split_ifs at h
    · simpa using h
    · obtain rfl | h := List.mem_cons.1 h
      · exact .inl rfl
      · exact .inr (List.mem_cons_of_mem _ h)
    · obtain rfl | h := List.mem_cons.1 h
      · exact .inr List.mem_cons_self
      · exact (mem_putProduct h).imp_right (List.mem_cons_of_mem _)

theorem pairwise_putProduct {e : Product} : ∀ {l : List Product}, l.Pairwise (fun x y => x.code < y.code) →
    (putProduct e l).Pairwise fun x y => x.code < y.code
  | [], _ => by simp [putProduct]
  | y :: ys, h => by
    obtain ⟨hy, hys⟩ := List.pairwise_cons.1 h
    rw [putProduct]
    split_ifs with hlt heq
    · refine List.pairwise_cons.2 ⟨fun x hx => ?_, h⟩
      obtain rfl | hx := List.mem_cons.1 hx
      · exact hlt
      · exact hlt.trans (hy x hx)
    · exact List.pairwise_cons.2 ⟨fun x hx => heq ▸ hy x hx, hys⟩
    · refine List.pairwise_cons.2 ⟨fun x hx => ?_, pairwise_putProduct hys⟩
      obtain rfl | hx := mem_putProduct hx
      · omega
      · exact hy x hx

/-- The entry written is found under its code, every other code as before (R24, R26). -/
theorem find_putProduct {e : Product} (n : Nat) : ∀ {l : List Product}, l.Pairwise (fun x y => x.code < y.code) →
    (putProduct e l).find? (fun x => x.code == n) = if n = e.code then some e else l.find? fun x => x.code == n
  | [], _ => by
    by_cases h : n = e.code
    · simp [putProduct, h]
    · simp [putProduct, h, Ne.symm h]
  | y :: ys, h => by
    obtain ⟨hy, hys⟩ := List.pairwise_cons.1 h
    rw [putProduct]
    by_cases hlt : e.code < y.code
    · rw [if_pos hlt]
      split_ifs with hn
      · simp [hn]
      · rw [List.find?_cons_of_neg (by simpa using Ne.symm hn)]
    rw [if_neg hlt]
    by_cases heq : e.code = y.code
    · rw [if_pos heq]
      split_ifs with hn
      · simp [hn]
      · rw [List.find?_cons_of_neg (by simpa using Ne.symm hn), List.find?_cons_of_neg (by simpa [← heq] using Ne.symm hn)]
    rw [if_neg heq]
    split_ifs with hn
    · rw [List.find?_cons_of_neg (by simp; omega), find_putProduct n hys, if_pos hn]
    · rw [List.find?_cons, List.find?_cons, find_putProduct n hys, if_neg hn]

/-- A code that the catalogue lists is replaced, any other joins (R26). -/
theorem length_putProduct {e : Product} : ∀ {l : List Product}, l.Pairwise (fun x y => x.code < y.code) →
    (putProduct e l).length = if l.find? (fun x => x.code == e.code) = none then l.length + 1 else l.length
  | [], _ => by simp [putProduct]
  | y :: ys, h => by
    obtain ⟨hy, hys⟩ := List.pairwise_cons.1 h
    rw [putProduct]
    split_ifs with hlt hnone heq hnone hnone
    · rfl
    · refine absurd (List.find?_eq_none.2 fun x hx => ?_) hnone
      have : e.code < x.code := by
        obtain rfl | hx := List.mem_cons.1 hx
        · exact hlt
        · exact hlt.trans (hy x hx)
      simp; omega
    · rw [List.find?_cons, ← heq] at hnone
      simp at hnone
    · rfl
    · have hyn : (y.code == e.code) = false := by simp; omega
      rw [List.find?_cons, hyn] at hnone
      rw [List.length_cons, length_putProduct hys, if_pos hnone, List.length_cons]
    · have hyn : (y.code == e.code) = false := by simp; omega
      rw [List.find?_cons, hyn] at hnone
      rw [List.length_cons, length_putProduct hys, if_neg hnone, List.length_cons]

/-- The entry of a code that is cut is gone, every other is found as before (R27). -/
theorem find_filter_code (l : List Product) (code n : Nat) :
    (l.filter fun e => e.code != code).find? (fun x => x.code == n) =
      if n = code then none else l.find? fun x => x.code == n := by
  rw [List.find?_filter]
  split_ifs with hn
  · exact List.find?_eq_none.2 fun x _ => by simp [hn]
  · refine List.find?_congr fun x _ => ?_
    by_cases hx : x.code = n
    · simp [hx, hn]
    · simp [hx]

/-! ### The tables -/

theorem matrixRow_get {levels : List Nat} (col : ClassNo) : (matrixRow levels)[col] = levels.getD col.val 0 := by
  simp [matrixRow]

theorem State.plannerAgrees_congr (hc : t.catalogue = s.catalogue) (hm : t.matrix = s.matrix) (hl : t.limits = s.limits)
    (hp : t.programs = s.programs) (h : s.plannerAgrees) : t.plannerAgrees := by
  unfold State.plannerAgrees State.matrixLevel State.classLimit at *
  rw [hc, hm, hl, hp]
  exact h

theorem reset_plannerAgrees : State.reset.plannerAgrees := by
  refine ⟨.nil, Nat.zero_le _, nofun, fun r col => ?_, fun d => ?_, fun n => ?_⟩
  · have h : State.reset.matrixLevel r col = 6 := by simp [State.matrixLevel, State.reset, resetMatrix]
    omega
  · have h : State.reset.classLimit d = ⟨100, 12⟩ := by simp [State.classLimit, State.reset, resetLimits]
    rw [h]
    decide
  · have h : State.reset.programs[n] = [] := by simp [State.reset, resetPrograms]
    rw [h]
    exact ⟨Nat.zero_le _, nofun⟩

theorem plannerAgrees_putProduct {e : Product} (he : e.legal)
    (hroom : (s.product? e.code).isSome = true ∨ s.catalogue.length < 128) (hs : s.plannerAgrees) :
    ({ s with catalogue := putProduct e s.catalogue } : State).plannerAgrees := by
  obtain ⟨hsorted, hfull, hlegal, hrest⟩ := hs
  refine ⟨pairwise_putProduct hsorted, ?_, fun x hx => ?_, hrest⟩
  · show (putProduct e s.catalogue).length ≤ 128
    rw [length_putProduct hsorted]
    split_ifs with hnone
    · rw [State.product?, hnone] at hroom
      exact hroom.resolve_left nofun
    · exact hfull
  · obtain rfl | hx := mem_putProduct hx
    · exact he
    · exact hlegal x hx

theorem plannerAgrees_cut (code : Nat) (hs : s.plannerAgrees) :
    ({ s with catalogue := s.catalogue.filter fun e => e.code != code } : State).plannerAgrees := by
  obtain ⟨hsorted, hfull, hlegal, hrest⟩ := hs
  exact ⟨hsorted.filter _, (List.length_filter_le _ _).trans hfull, fun x hx => hlegal x (List.mem_filter.1 hx).1, hrest⟩

theorem State.matrixLevel_setRow (row r col : ClassNo) (levels : List Nat) :
    ({ s with matrix := s.matrix.set row (matrixRow levels) } : State).matrixLevel r col =
      if r = row then levels.getD col.val 0 else s.matrixLevel r col := by
  simp only [State.matrixLevel, Fin.getElem_fin, Vector.getElem_set, Fin.val_inj, eq_comm (a := row)]
  split_ifs
  · exact matrixRow_get col
  · rfl

theorem State.classLimit_set (cls d : ClassNo) (x : ClassLimit) :
    ({ s with limits := s.limits.set cls x } : State).classLimit d = if d = cls then x else s.classLimit d := by
  simp only [State.classLimit, Fin.getElem_fin, Vector.getElem_set, Fin.val_inj, eq_comm (a := cls)]

theorem plannerAgrees_setRow (row : ClassNo) {levels : List Nat} (hlevels : ∀ n ∈ levels, n ≤ 7) (hs : s.plannerAgrees) :
    ({ s with matrix := s.matrix.set row (matrixRow levels) } : State).plannerAgrees := by
  obtain ⟨hsorted, hfull, hlegal, hmatrix, hrest⟩ := hs
  refine ⟨hsorted, hfull, hlegal, fun r col => ?_, hrest⟩
  rw [State.matrixLevel_setRow]
  split_ifs
  · rw [List.getD_eq_getElem?_getD]
    cases hcol : levels[col.val]? with
    | none => exact Nat.zero_le _
    | some n => exact hlevels n (List.mem_of_getElem? hcol)
  · exact hmatrix r col

theorem plannerAgrees_setLimit (cls : ClassNo) {x : ClassLimit} (hc : 1 ≤ x.conductivity ∧ x.conductivity ≤ 20000)
    (hv : 1 ≤ x.validityHours ∧ x.validityHours ≤ 48) (hs : s.plannerAgrees) :
    ({ s with limits := s.limits.set cls x } : State).plannerAgrees := by
  obtain ⟨hsorted, hfull, hlegal, hmatrix, hlimits, hrest⟩ := hs
  refine ⟨hsorted, hfull, hlegal, hmatrix, fun d => ?_, hrest⟩
  rw [State.classLimit_set]
  split_ifs
  · exact ⟨hc, hv⟩
  · exact hlimits d

theorem plannerAgrees_setProgram (m : Fin 6) {steps : List WashStep} (hn : steps.length ≤ 6) (hsteps : ∀ st ∈ steps, st.legal)
    (hs : s.plannerAgrees) : ({ s with programs := s.programs.set m steps } : State).plannerAgrees := by
  obtain ⟨hsorted, hfull, hlegal, hmatrix, hlimits, hprograms⟩ := hs
  refine ⟨hsorted, hfull, hlegal, hmatrix, hlimits, fun n => ?_⟩
  have hget : (s.programs.set m steps)[n] = if n = m then steps else s.programs[n] := by
    simp only [Fin.getElem_fin, Vector.getElem_set, Fin.val_inj, eq_comm (a := m)]
  show ((s.programs.set m steps)[n]).length ≤ 6 ∧ ∀ st ∈ (s.programs.set m steps)[n], st.legal
  rw [hget]
  split_ifs
  · exact ⟨hn, hsteps⟩
  · exact hprograms n

theorem reset_pending_plannerAgrees (cs : List Instr) : ({ State.reset with pending := cs } : State).plannerAgrees := by
  refine State.plannerAgrees_congr (s := State.reset) ?_ ?_ ?_ ?_ reset_plannerAgrees
  · rfl
  · rfl
  · rfl
  · rfl

/-- Departing changes the tables of the yard's records, the queue and the lines alone. -/
theorem State.departed_frame (tag : Nat) (u : TankerSlot) :
    ((s.dequeueTanker tag).freeTankerSlot u).driveLatches =
      { s with
        tankers := s.tankers.set u none
        comps := ((s.dequeueTanker tag).freeTankerSlot u).comps
        queue := s.queue.filter fun e => e.tag != tag
        lines := s.lines.map ((s.dequeueTanker tag).freeTankerSlot u).follow } := by
  simp [State.driveLatches, State.freeTankerSlot, State.dequeueTanker, State.setTanker, State.freeComp]

/-- Every change keeps the planner's tables in their ranges. -/
theorem Change.plannerAgrees (h : Change A s t) (hs : s.plannerAgrees) : t.plannerAgrees := by
  cases h with
  | productPut e he _ hr => exact plannerAgrees_putProduct he hr hs
  | productCut code => exact plannerAgrees_cut code hs
  | matrixRow row levels hlevels => exact plannerAgrees_setRow row hlevels hs
  | classLimit cls x hc hv => exact plannerAgrees_setLimit cls hc hv hs
  | program m steps hn hsteps => exact plannerAgrees_setProgram m hn hsteps hs
  | registered => rw [makeComps_frame]; exact hs
  | handedOut => unfold State.handOut; split_ifs <;> exact hs
  | configured => unfold State.beginBinding State.endBinding; split <;> split <;> exact hs
  | converted =>
    unfold convertLine
    split_ifs
    · split <;> exact hs
    · exact hs
  | reset => exact reset_pending_plannerAgrees _
  | departed =>
    refine State.plannerAgrees_congr (s := s) ?_ ?_ ?_ ?_ hs <;> rw [State.departed_frame]
  | _ => exact State.plannerAgrees_congr (s := s) rfl rfl rfl rfl hs

/-! ### The products that records name -/

/-- A product code that a record copied is listed with the class it copied; 0 stands for CLEAN and for clean return (R25). -/
def State.listed (s : State) (code : Nat) (cls : ClassNo) : Prop :=
  if code = 0 then cls = 0 else ∃ e, s.product? code = some e ∧ e.cls = cls

/-- Every product that the record names is listed (R25). -/
def State.refsListed (s : State) (c : Comp) : Prop :=
  (∀ l, c.last = some l → s.listed l.code l.cls) ∧ ∀ b, c.st.booking = some b → s.listed b.target b.cls

theorem State.referencesHold_iff : s.referencesHold ↔ ∀ k c, s.compAt k = some c → s.refsListed c := Iff.rfl

theorem State.listed_of_targetClass {code : Nat} {cls : ClassNo} (h : s.targetClass code = some cls) : s.listed code cls := by
  unfold State.targetClass at h
  unfold State.listed
  split_ifs at h ⊢ with h0
  · exact (Option.some.inj h).symm
  · obtain ⟨e, he, hcls⟩ := Option.map_eq_some_iff.1 h
    exact ⟨e, he, hcls⟩

theorem Comp.counted_booking (c : Comp) : c.counted.st.booking = c.st.booking := by
  obtain h | ⟨b, pl, h, hst, hc⟩ | ⟨b, pl, r, hst, -, hc⟩ := c.counted_cases
  · rw [h]
  · rw [hc, hst]; rfl
  · rw [hc, hst]; rfl

theorem Comp.caughtUp_booking (c : Comp) : c.caughtUp.st.booking = c.st.booking := by
  obtain ⟨h, -⟩ | ⟨h, -⟩ := c.caughtUp_cases <;> rw [h]
  exact c.counted_booking

theorem Comp.reached_booking (c : Comp) : c.reached.st.booking = c.st.booking := by
  obtain ⟨-, h⟩ | ⟨-, h⟩ := c.reached_cases <;> rw [h]
  exact c.counted_booking

/-- A booking after a move is the one before, or one with a listed target; the rewash alone changes its priority. -/
theorem Move.booking (h : Move A s k c c') {b : Booking} (hb : c'.st.booking = some b) :
    ∃ b₀, s.mayBook c b₀ ∧ b₀.target = b.target ∧ b₀.cls = b.cls := by
  have hnew : ∀ {b'}, s.mayBook c b' → some b' = some b → ∃ b₀, s.mayBook c b₀ ∧ b₀.target = b.target ∧ b₀.cls = b.cls :=
    fun hb' heq => ⟨b, Option.some.inj heq ▸ hb', rfl, rfl⟩
  have hsame : ∀ {st st' : CompState}, c.st = st → st.booking = st'.booking → st'.booking = some b →
      ∃ b₀, s.mayBook c b₀ ∧ b₀.target = b.target ∧ b₀.cls = b.cls :=
    fun h1 h2 h3 => ⟨b, .inr (by rw [h1, h2, h3]), rfl, rfl⟩
  cases h with
  | forbidden _ hmay | levelZero _ _ hmay | planned _ hmay | keptQueued _ _ hmay | keptWashed _ _ hmay
  | keptReleased _ _ hmay | bookedBlocked _ hmay => exact hnew hmay hb
  | returned hst | handedOut hst | started hst | inspected hst | levelZeroFailed hst | volumeTaken _ hst | resumed hst
  | silenced hst | overran hst => exact hsame hst rfl hb
  | passed _ _ _ hst => exact hsame hst rfl hb
  | fillBegun _ _ _ hst => exact hsame hst rfl hb
  | backToWashed hst =>
    obtain ⟨_, hst⟩ | ⟨_, hst⟩ := hst
    · exact hsame hst rfl hb
    · exact hsame hst rfl hb
  | @rewashed b' _ _ _ _ hst => exact ⟨b', .inr (by rw [hst]; rfl), by cases hb; rfl, by cases hb; rfl⟩
  | inspectionBlocked _ hst => rw [Comp.capture_st] at hb; exact hsame hst rfl hb
  | tagRefused _ hst => rw [Comp.capture_st] at hb; exact hsame hst rfl hb
  | halted _ hst => rw [Comp.capture_st] at hb; exact hsame hst rfl hb
  | overrunBlocked _ hst => rw [Comp.capture_st] at hb; exact hsame hst rfl hb
  | expired _ hst => rw [Comp.capture_st] at hb; exact hsame hst rfl hb
  | fillRevoked => rw [Comp.capture_st] at hb; cases hb
  | fillEnded => rw [endedFill_st] at hb; cases hb
  | acknowledged => exact ⟨b, .inr hb, rfl, rfl⟩
  | sampled hst hs =>
    rw [Comp.caughtUp_booking] at hb
    cases hs <;> exact hsame hst rfl hb
  | caughtUp => exact ⟨b, .inr (c.counted_booking ▸ hb), rfl, rfl⟩
  | reached => exact ⟨b, .inr (c.reached_booking ▸ hb), rfl, rfl⟩

@[simp] theorem Comp.reached_last : c.reached.last = c.last := by
  obtain ⟨-, h⟩ | ⟨-, h⟩ := c.reached_cases <;> rw [h]
  exact Comp.counted_last

@[simp] theorem Comp.caughtUp_last : c.caughtUp.last = c.last := by
  obtain ⟨h, -⟩ | ⟨h, -⟩ := c.caughtUp_cases <;> rw [h]
  exact Comp.counted_last

theorem endedFill_last {b : Booking} {p : Port} {f : Fill} {n : Nat} :
    (s.endedFill c b p f n).last = some { code := f.product, cls := s.loadedClass f.product b } := by
  unfold State.endedFill
  split_ifs
  · rw [Comp.capture_last]; rfl
  · rfl

/-- The last product changes with a fill that ends, to the product loaded (R3, R21, R123). -/
theorem Move.last (h : Move A s k c c') :
    c'.last = c.last ∨ ∃ b pl p r f hs, c.st = .filling b pl p r f hs ∧
      c'.last = some { code := f.product, cls := s.loadedClass f.product b } := by
  cases h with
  | forbidden hc => exact .inl hc.parts.2.2.2
  | levelZero _ hc => exact .inl hc.parts.2.2.2
  | planned hc => exact .inl hc.parts.2.2.2
  | fillRevoked i hst => exact .inr ⟨_, _, _, _, _, _, hst, by rw [Comp.capture_last]; rfl⟩
  | fillEnded _ hst => exact .inr ⟨_, _, _, _, _, _, hst, endedFill_last⟩
  | inspectionBlocked | tagRefused | halted | overrunBlocked | expired => exact .inl (Comp.capture_last _)
  | sampled => exact .inl Comp.caughtUp_last
  | caughtUp => exact .inl Comp.counted_last
  | reached => exact .inl Comp.reached_last
  | _ => exact .inl rfl

/-- A booking that may be made names a listed product, when the record's own does. -/
theorem State.mayBook.listed {b : Booking} (h : s.mayBook c b) (hc : s.refsListed c) : s.listed b.target b.cls :=
  h.elim State.listed_of_targetClass (hc.2 b)

/-- Every move keeps the products of a record listed. -/
theorem Move.refsListed (h : Move A s k c c') (hp : s.plannerAgrees) (hc : s.refsListed c) (ht : c.targetsAgree) :
    s.refsListed c' := by
  refine ⟨fun l hl => ?_, fun b hb => ?_⟩
  · obtain hsame | ⟨b, pl, p, r, f, hs, hst, hlast⟩ := h.last
    · exact hc.1 l (hsame ▸ hl)
    · rw [hlast] at hl
      cases hl
      have hb : c.st.booking = some b := by rw [hst]; rfl
      have htarget : f.product = b.target := ht.2 b f hs hb (by rw [hst]; rfl)
      have hlisted := hc.2 b hb
      rw [← htarget] at hlisted
      show s.listed f.product (s.loadedClass f.product b)
      unfold State.listed State.loadedClass at *
      split_ifs at hlisted ⊢ with h0
      · cases hprod : s.product? f.product with
        | none => exact hlisted
        | some e =>
          obtain ⟨he, hcode⟩ := State.product_mem hprod
          have := (hp.2.2.1 e he).1.1
          omega
      · obtain ⟨e, he, hcls⟩ := hlisted
        exact ⟨e, he, by rw [he]⟩
  · obtain ⟨b₀, hmay, htarget, hcls⟩ := h.booking hb
    rw [← htarget, ← hcls]
    exact hmay.listed hc

/-- A record without a release and without a fill has no target to agree on. -/
theorem Comp.targetsAgree_of_none (hr : c.st.release = none) (hf : c.st.fill = none) : c.targetsAgree :=
  ⟨fun _ _ _ h => absurd (hr.symm.trans h) nofun, fun _ _ _ _ h => absurd (hf.symm.trans h) nofun⟩

theorem Comp.targetsAgree_released {b : Booking} {pl : Plan} {r : Release} (hst : c.st = .released b pl r) :
    c.targetsAgree ↔ r.target = b.target := by
  simp [Comp.targetsAgree, hst, CompState.booking, CompState.release, CompState.fill]

theorem Comp.targetsAgree_filling {b : Booking} {pl : Plan} {h : Port} {r : Release} {f : Fill} {hs : HaltSet}
    (hst : c.st = .filling b pl h r f hs) : c.targetsAgree ↔ r.target = b.target ∧ f.product = b.target := by
  simp [Comp.targetsAgree, hst, CompState.booking, CompState.release, CompState.fill]

theorem Comp.targetsAgree_counted (h : c.targetsAgree) : c.counted.targetsAgree := by
  obtain hc | ⟨b, pl, p, -, hc⟩ | ⟨b, pl, r, hst, -, hc⟩ := c.counted_cases
  · rwa [hc]
  · rw [hc]; exact Comp.targetsAgree_of_none rfl rfl
  · rw [hc, Comp.targetsAgree_released rfl]
    exact (Comp.targetsAgree_released hst).1 h

theorem Comp.targetsAgree_caughtUp (h : c.targetsAgree) : c.caughtUp.targetsAgree := by
  obtain ⟨hc, -⟩ | ⟨hc, -⟩ := c.caughtUp_cases <;> rw [hc]
  · exact h
  · exact Comp.targetsAgree_counted h

/-- Every move keeps the targets of a record in agreement (R25). -/
theorem Move.targetsAgree (h : Move A s k c c') (hc : c.targetsAgree) : c'.targetsAgree := by
  cases h with
  | keptReleased => exact (Comp.targetsAgree_released rfl).2 rfl
  | acknowledged => exact hc
  | passed => exact (Comp.targetsAgree_released rfl).2 rfl
  | fillBegun _ _ _ hst =>
    have htarget := (Comp.targetsAgree_released hst).1 hc
    exact (Comp.targetsAgree_filling (Comp.withSt_st _)).2 ⟨htarget, htarget⟩
  | volumeTaken _ hst => exact (Comp.targetsAgree_filling (Comp.withSt_st _)).2 ((Comp.targetsAgree_filling hst).1 hc)
  | resumed hst => exact (Comp.targetsAgree_filling rfl).2 ((Comp.targetsAgree_filling hst).1 hc)
  | halted i hst =>
    exact (Comp.targetsAgree_filling (Comp.capture_st i)).2 ((Comp.targetsAgree_filling hst).1 hc)
  | sampled _ hs => cases hs <;> exact Comp.targetsAgree_caughtUp (Comp.targetsAgree_of_none rfl rfl)
  | caughtUp => exact Comp.targetsAgree_counted hc
  | reached =>
    obtain ⟨-, h⟩ | ⟨-, h⟩ := c.reached_cases <;> rw [h]
    · exact Comp.targetsAgree_counted hc
    · exact hc
  | fillEnded => exact Comp.targetsAgree_of_none (by rw [endedFill_st]; rfl) (by rw [endedFill_st]; rfl)
  | fillRevoked i | inspectionBlocked i | tagRefused i | overrunBlocked i | expired i =>
    exact Comp.targetsAgree_of_none (by rw [Comp.capture_st]; rfl) (by rw [Comp.capture_st]; rfl)
  | _ => exact Comp.targetsAgree_of_none rfl rfl

/-- A new record names listed products (R15). -/
theorem NewRecord.refsListed (h : NewRecord s c) : s.refsListed c := by
  obtain ⟨tag, index, capacity, last, -, hknown⟩ := h
  refine ⟨fun l hl => ?_, nofun⟩
  change s.lastOf last = some l at hl
  unfold State.lastOf at hl
  unfold State.listed
  split_ifs at hl with hnone hclean
  · cases hl; rfl
  · obtain ⟨e, he, rfl⟩ := Option.map_eq_some_iff.1 hl
    rw [if_neg hclean]
    exact ⟨e, he, rfl⟩

/-- No record names the code (R25). -/
theorem State.not_refers_of_referenced {code : Nat} (h : s.referenced code = false) (hk : s.compAt k = some c) :
    (∀ l, c.last = some l → l.code ≠ code) ∧ ∀ b, c.st.booking = some b → b.target ≠ code := by
  have := State.any_records_eq_false.1 h k c hk
  simpa [refersTo, Option.any_eq_false] using this

theorem State.listed_of_product {code : Nat} {cls : ClassNo} (hp : t.product? code = s.product? code) (h : s.listed code cls) :
    t.listed code cls := by
  unfold State.listed at *
  rwa [hp]

/-- The entries a change leaves: those there were, but for a code that no record names, and in the yard emptied by a reset. -/
theorem Change.product (h : Change A s t) (hs : s.plannerAgrees) :
    (∀ n, t.product? n = s.product? n) ∨ (∀ k, t.compAt k = none) ∨
    ∃ code, s.referenced code = false ∧ (∀ k, t.compAt k = s.compAt k) ∧ ∀ n, n ≠ code → t.product? n = s.product? n := by
  cases h with
  | productPut e he href =>
    exact .inr (.inr ⟨e.code, href, fun _ => rfl, fun n hn => (find_putProduct n hs.1).trans (if_neg hn)⟩)
  | productCut code href => exact .inr (.inr ⟨code, href, fun _ => rfl, fun n hn => (find_filter_code ..).trans (if_neg hn)⟩)
  | registered => rw [makeComps_frame]; exact .inl fun _ => rfl
  | handedOut => unfold State.handOut; split_ifs <;> exact .inl fun _ => rfl
  | configured => unfold State.beginBinding State.endBinding; split <;> split <;> exact .inl fun _ => rfl
  | converted =>
    unfold convertLine
    split_ifs
    · split <;> exact .inl fun _ => rfl
    · exact .inl fun _ => rfl
  | departed => rw [State.departed_frame]; exact .inl fun _ => rfl
  | reset => exact .inr (.inl resetComps_get)
  | _ => exact .inl fun _ => rfl

/-- Every change keeps the products that records name listed. -/
theorem Change.referencesHold (h : Change A s t) (hp : s.plannerAgrees) (hr : s.referencesHold)
    (ht : ∀ k c, s.compAt k = some c → c.targetsAgree) : t.referencesHold := by
  rw [State.referencesHold_iff] at *
  obtain hsame | hnone | ⟨code, href, hcomp, hother⟩ := h.product hp
  · have hlisted : ∀ c, s.refsListed c → t.refsListed c := fun c hc =>
      ⟨fun l hl => State.listed_of_product (hsame _) (hc.1 l hl), fun b hb => State.listed_of_product (hsame _) (hc.2 b hb)⟩
    exact h.records_induction (P := s.refsListed) hr (fun _ c _ hc => hlisted c hc)
      (fun k c c' hk hc hm => hlisted c' (hm.refsListed hp hc (ht k c hk))) fun c hc => hlisted c hc.refsListed
  · exact fun k c hk => absurd ((hnone k).symm.trans hk) nofun
  · intro k c hk
    rw [hcomp] at hk
    obtain ⟨hlast, hbook⟩ := State.not_refers_of_referenced href hk
    exact ⟨fun l hl => State.listed_of_product (hother _ (hlast l hl)) ((hr k c hk).1 l hl),
      fun b hb => State.listed_of_product (hother _ (hbook b hb)) ((hr k c hk).2 b hb)⟩

theorem Change.targetsAgree (h : Change A s t) (ht : ∀ k c, s.compAt k = some c → c.targetsAgree) :
    ∀ k c, t.compAt k = some c → c.targetsAgree :=
  h.records_induction ht (fun _ _ _ hc => hc) (fun _ _ _ _ hc hm => hm.targetsAgree hc)
    fun _ hc => by cases hc; exact Comp.targetsAgree_of_none rfl rfl

/-- Settles O58: every change keeps the tables, the references and the targets, and a step is a chain of changes. -/
theorem stepKeepsPlannerAndReferences : Obligations.StepKeepsPlannerAndReferences := by
  intro s t hp hr ht h
  exact step_induction
    (P := fun s => s.plannerAgrees ∧ s.referencesHold ∧ ∀ k c, s.compAt k = some c → c.targetsAgree)
    (fun _ _ hs => hs)
    (fun _ _ _ ⟨hp, hr, ht⟩ hc => ⟨hc.plannerAgrees hp, hc.referencesHold hp hr ht, hc.targetsAgree ht⟩) ⟨hp, hr, ht⟩ h

end Sys2Proof.Machine
end

section
/-! PROOF. Every step keeps the lines, their bindings, the probe records and the ports in agreement (R140, R146, R151, R88,
R94, R157, R158, R171, R174). -/

namespace Sys2Proof.Machine

variable {s t : State} {A : Taking} {l : LineNo} {p : Port}

/-! ### What some changes leave alone -/

theorem State.handOut_frame (s : State) (p : Port) (docked : Bool) (w : Work) :
    s.handOut p docked w =
      { s with
        comps := (s.handOut p docked w).comps, tankers := (s.handOut p docked w).tankers
        queue := (s.handOut p docked w).queue } := by
  unfold State.handOut
  split_ifs <;> rfl

theorem State.configured_frame (s : State) (l : LineNo) (x : Line) (f g : Option Func) :
    ((s.endBinding f).setLine l x).beginBinding g =
      { s with lines := s.lines.set l x, probes := (((s.endBinding f).setLine l x).beginBinding g).probes } := by
  unfold State.beginBinding State.endBinding
  split <;> split <;> rfl

theorem State.converted_frame (s : State) (l : LineNo) (raw : Nat) :
    convertLine l raw s =
      { s with lines := (convertLine l raw s).lines, probes := (convertLine l raw s).probes } := by
  unfold convertLine
  split_ifs
  · split <;> rfl
  · rfl

/-! ### The lines -/

/-- The configuration and the working state of line `l` suit each other (R140, R146, R151, R152). -/
def Line.agrees (l : LineNo) (x : Line) : Prop :=
  depthSuits x.mode x.depth = true ∧ (x.depth = 0 ∨ x.depth = 2 ∨ x.depth = 4 ∨ x.depth = 8) ∧
  (∀ f, x.func = some f → modeSuits x.mode f = true) ∧ (x.mode = .analog → 16 ≤ l.val) ∧
  (x.mode = .inputFiltered → x.run < x.depth) ∧ ∀ raw, x.raw = some raw → raw ≤ 1023

theorem State.linesAgree_iff : s.linesAgree ↔ ∀ l, (s.line l).agrees l := Iff.rfl

/-- All that a change can make of a line. -/
inductive LineMove (s : State) (l : LineNo) : Line → Prop
  | driven (latch : Bool) : LineMove s l { s.line l with latch := latch }
  | sampled (lv : Level) : LineMove s l ((s.line l).sample lv).1
  | converted (raw : Nat) (hraw : raw ≤ 1023) (hmode : (s.line l).mode = .analog) :
      LineMove s l { s.line l with raw := some raw }
  | configured (cfg : LineConfig) (hdepth : cfg.depth = 0 ∨ cfg.depth = 2 ∨ cfg.depth = 4 ∨ cfg.depth = 8)
      (hok : s.configRefusal l cfg = none) : LineMove s l (s.configured cfg)
  | reset : LineMove s l resetLine

theorem LineMove.same : LineMove s l (s.line l) := .driven (s.line l).latch

theorem LineMove.of_reset {x : Line} (h : x = resetLine) : LineMove s l x := h ▸ .reset

/-- Following a demand moves the latch alone (R149). -/
theorem State.follow_eq (s : State) (x : Line) : ∃ latch, s.follow x = { x with latch := latch } := by
  unfold State.follow
  split
  next f _ => cases s.demand f <;> exact ⟨_, rfl⟩
  next => exact ⟨x.latch, rfl⟩

theorem LineMove.follow (u : State) : LineMove s l (u.follow (s.line l)) := by
  obtain ⟨latch, h⟩ := u.follow_eq (s.line l)
  exact h ▸ .driven latch

@[simp] theorem resetLines_get (l : LineNo) : resetLines[l] = resetLine := by simp [resetLines]

theorem convertLine_line (raw : Nat) (m : LineNo) :
    (convertLine l raw s).line m =
      if m = l ∧ (s.line l).mode = .analog then { s.line l with raw := some raw } else s.line m := by
  unfold convertLine
  by_cases hmode : (s.line l).mode = .analog
  · rw [if_pos hmode]
    split <;> simp [hmode, State.probeSample, State.line_setLine]
  · simp [hmode]

theorem Change.lineMove (h : Change A s t) (l : LineNo) : LineMove s l (t.line l) := by
  have hset : ∀ {m : LineNo} {x : Line}, (l = m → LineMove s l x) → LineMove s l (if l = m then x else s.line l) := by
    intro m x hx
    split_ifs with hl
    · exact hx hl
    · exact .same
  have hdrive : ∀ u : State, (∀ m, u.line m = s.line m) → LineMove s l (u.driveLatches.line l) := by
    intro u hu
    rw [State.line_driveLatches, hu]
    exact .follow u
  cases h with
  | configured m cfg hdepth hok =>
    rw [State.configured_frame]
    exact State.line_setLine .. ▸ hset fun hl => .configured cfg hdepth (hl ▸ hok)
  | latchSet m latch => exact State.line_setLine .. ▸ hset fun hl => hl ▸ .driven latch
  | sampled m lv => exact State.line_setLine .. ▸ hset fun hl => hl ▸ .sampled lv
  | converted m raw hraw =>
    rw [convertLine_line]
    split_ifs with hl
    · exact hl.1 ▸ .converted raw hraw (hl.1 ▸ hl.2)
    · exact .same
  | cleared => exact hdrive _ fun _ => rfl
  | departed => exact hdrive _ fun _ => rfl
  | driven => exact hdrive _ fun _ => rfl
  | returned => exact hdrive _ fun _ => rfl
  | registered => rw [makeComps_frame]; exact .same
  | handedOut => rw [State.handOut_frame]; exact .same
  | reset => exact .of_reset (resetLines_get l)
  | _ => exact .same

/-- An accepted configuration passed each of CONFIGURE LINE's own checks (R152). -/
theorem State.configRefusal_eq_none {cfg : LineConfig} (h : s.configRefusal l cfg = none) :
    s.lock = false ∧ (cfg.mode = .analog → 16 ≤ l.val) ∧ (∀ f, cfg.func = some f → modeSuits cfg.mode f = true) ∧
    depthSuits cfg.mode cfg.depth = true ∧ s.runningBay l = none ∧
    ∀ m f, cfg.func = some f → m ≠ l → (s.line m).func ≠ some f := by
  unfold State.configRefusal at h
  split_ifs at h with hlock hanalog hmode hdepth
  split at h
  · cases h
  split at h
  · cases h
  next hbay _ hother =>
    refine ⟨by simpa using hlock, fun ha => ?_, fun f hf => ?_, by simpa using hdepth, hbay, fun m f hf hm => ?_⟩
    · exact Nat.le_of_not_lt fun hlt => hanalog ⟨ha, hlt⟩
    · simpa [hf] using hmode
    · unfold State.otherLine at hother
      rw [hf] at hother
      simpa [hm] using List.find?_eq_none.1 hother m (List.mem_finRange m)

theorem Line.agrees_sample {x : Line} (lv : Level) (h : x.agrees l) : (x.sample lv).1.agrees l := by
  obtain ⟨hsuits, hdepth, hfunc, hanalog, hrun, hraw⟩ := h
  unfold Line.sample
  cases hm : x.mode with
  | input =>
    unfold Line.plainSample
    dsimp only
    split_ifs <;> exact ⟨hm ▸ hsuits, hdepth, hm ▸ hfunc, hm ▸ hanalog, by simp [hm], hraw⟩
  | inputFiltered =>
    have hpos : 0 < x.depth := Nat.pos_of_ne_zero fun h0 => by simp [depthSuits, hm, h0] at hsuits
    unfold Line.filterSample
    dsimp only
    split_ifs with h1 h2 h3
    · exact ⟨hm ▸ hsuits, hdepth, hm ▸ hfunc, hm ▸ hanalog, fun _ => hpos, hraw⟩
    · exact ⟨hm ▸ hsuits, hdepth, hm ▸ hfunc, hm ▸ hanalog, fun _ => hpos, hraw⟩
    · exact ⟨hm ▸ hsuits, hdepth, hm ▸ hfunc, hm ▸ hanalog, fun _ => hpos, hraw⟩
    · exact ⟨hm ▸ hsuits, hdepth, hm ▸ hfunc, hm ▸ hanalog, fun _ => Nat.lt_of_not_le h3, hraw⟩
  | outputPushPull | outputOpen | analog => exact ⟨hsuits, hdepth, hfunc, hanalog, hrun, hraw⟩

theorem Line.sample_func (x : Line) (lv : Level) : (x.sample lv).1.func = x.func := by
  unfold Line.sample Line.plainSample Line.filterSample
  cases x.mode <;> dsimp only <;> split_ifs <;> rfl

theorem LineMove.agrees {x : Line} (h : LineMove s l x) (hs : (s.line l).agrees l) : x.agrees l := by
  cases h with
  | driven => exact hs
  | sampled lv => exact Line.agrees_sample lv hs
  | converted raw hraw =>
    obtain ⟨hsuits, hdepth, hfunc, hanalog, hrun, -⟩ := hs
    exact ⟨hsuits, hdepth, hfunc, hanalog, hrun, fun n hn => Option.some.inj hn ▸ hraw⟩
  | configured cfg hdepth hok =>
    obtain ⟨-, hanalog, hfunc, hsuits, -⟩ := State.configRefusal_eq_none hok
    refine ⟨hsuits, hdepth, hfunc, hanalog, fun hm => Nat.pos_of_ne_zero fun h0 => ?_, nofun⟩
    change cfg.mode = .inputFiltered at hm
    change cfg.depth = 0 at h0
    simp [depthSuits, hm, h0] at hsuits
  | reset => exact ⟨rfl, .inl rfl, nofun, nofun, nofun, nofun⟩

theorem Change.linesAgree (h : Change A s t) (hs : s.linesAgree) : t.linesAgree :=
  fun l => (h.lineMove l).agrees (hs l)

/-! ### The probe records -/

theorem State.convert_le (s : State) (raw : Nat) : s.convert raw ≤ 20000 := by
  unfold State.convert
  omega

@[simp] theorem resetProbes_get (p : Port) : resetProbes.get p = none := by cases p <;> rfl

theorem State.probe_endBinding (f : Option Func) (p : Port) :
    (s.endBinding f).probe p = if f = some (.rinseProbe p) then none else s.probe p := by
  unfold State.endBinding
  split
  next q => simp [State.probe_setProbe, eq_comm]
  next hf =>
    rw [if_neg (hf p)]

theorem State.probe_beginBinding (f : Option Func) (p : Port) :
    (s.beginBinding f).probe p = if f = some (.rinseProbe p) then some ⟨none, false⟩ else s.probe p := by
  unfold State.beginBinding
  split
  next q => simp [State.probe_setProbe, eq_comm]
  next hf =>
    rw [if_neg (hf p)]

theorem configured_probe (x : Line) (f g : Option Func) (p : Port) :
    (((s.endBinding f).setLine l x).beginBinding g).probe p =
      if g = some (.rinseProbe p) then some ⟨none, false⟩ else if f = some (.rinseProbe p) then none else s.probe p := by
  rw [State.probe_beginBinding]
  split_ifs with hg hf
  · rfl
  · exact (State.probe_endBinding f p).trans (if_pos hf)
  · exact (State.probe_endBinding f p).trans (if_neg hf)

/-- A conversion reaches the probe record of the port its line is bound to, if there is one (R94, R147). -/
theorem convertLine_probe (raw : Nat) (p : Port) :
    (convertLine l raw s).probe p =
      if (s.line l).mode = .analog ∧ (s.line l).func = some (.rinseProbe p) then
        (s.probe p).map fun _ => ⟨some ⟨raw, s.convert raw⟩, false⟩
      else s.probe p := by
  unfold convertLine
  by_cases hmode : (s.line l).mode = .analog
  · rw [if_pos hmode]
    split
    next q hq =>
      simp only [State.probeSample, State.probe_setProbe, hq, hmode, Option.some.injEq, Func.rinseProbe.injEq, true_and,
        eq_comm (a := q)]
      split_ifs with hp
      · rw [hp]; rfl
      · rfl
    next hq => rw [if_neg fun h => hq p h.2, State.setLine_probe]
  · simp [hmode]

/-- A reading after a change is one from before it, or what a raw sample converts to. -/
theorem Change.reading_cases (h : Change A s t) {x : Probe} {r : ProbeReading} (hx : t.probe p = some x)
    (hr : x.reading = some r) :
    (∃ x', s.probe p = some x' ∧ x'.reading = some r) ∨ ∃ raw, raw ≤ 1023 ∧ r = ⟨raw, s.convert raw⟩ := by
  cases h with
  | configured =>
    rw [configured_probe] at hx
    split_ifs at hx with hg
    · cases hx; cases hr
    · exact .inl ⟨x, hx, hr⟩
  | calibrated =>
    change (s.probes.map _).get p = some x at hx
    rw [PerPort.get_map] at hx
    obtain ⟨y, hy, rfl⟩ := Option.map_eq_some_iff.1 hx
    exact .inl ⟨y, hy, hr⟩
  | converted l raw hraw =>
    rw [convertLine_probe] at hx
    split_ifs at hx
    · obtain ⟨_, -, rfl⟩ := Option.map_eq_some_iff.1 hx
      cases hr
      exact .inr ⟨raw, hraw, rfl⟩
    · exact .inl ⟨x, hx, hr⟩
  | registered => rw [makeComps_frame] at hx; exact .inl ⟨x, hx, hr⟩
  | handedOut => rw [State.handOut_frame] at hx; exact .inl ⟨x, hx, hr⟩
  | departed => rw [State.departed_frame] at hx; exact .inl ⟨x, hx, hr⟩
  | reset => exact absurd ((resetProbes_get p).symm.trans hx) nofun
  | _ => exact .inl ⟨x, hx, hr⟩

/-- The calibration after a change is the one before it, or one in range. -/
theorem Change.calibration (h : Change A s t) (hs : (1 ≤ s.scale ∧ s.scale ≤ 1023) ∧ (-2000 ≤ s.offset ∧ s.offset ≤ 2000)) :
    (1 ≤ t.scale ∧ t.scale ≤ 1023) ∧ (-2000 ≤ t.offset ∧ t.offset ≤ 2000) := by
  cases h with
  | configured => rw [State.configured_frame]; exact hs
  | calibrated _ _ hscale hoffset => exact ⟨hscale, hoffset⟩
  | converted => rw [State.converted_frame]; exact hs
  | registered => rw [makeComps_frame]; exact hs
  | handedOut => rw [State.handOut_frame]; exact hs
  | departed => rw [State.departed_frame]; exact hs
  | reset => exact (by decide : (1 ≤ 64 ∧ 64 ≤ 1023) ∧ ((-2000 : Int) ≤ 0 ∧ (0 : Int) ≤ 2000))
  | _ => exact hs

theorem Change.probesAgree (h : Change A s t) (hs : s.probesAgree) : t.probesAgree := by
  obtain ⟨hscale, hoffset, hreadings⟩ := hs
  obtain ⟨hscale', hoffset'⟩ := h.calibration ⟨hscale, hoffset⟩
  refine ⟨hscale', hoffset', fun p x r hx hr => ?_⟩
  obtain ⟨y, hy, hr⟩ | ⟨raw, hraw, rfl⟩ := h.reading_cases hx hr
  · exact hreadings p y r hy hr
  · exact ⟨hraw, s.convert_le raw⟩

/-! ### The bindings -/

theorem State.bindingsAgree_congr (hf : ∀ l, (t.line l).func = (s.line l).func)
    (hp : ∀ p, (t.probe p).isSome = (s.probe p).isSome) (hs : s.bindingsAgree) : t.bindingsAgree := by
  unfold State.bindingsAgree at *
  simpa only [hf, hp] using hs

theorem LineMove.func {x : Line} (h : LineMove s l x) : x.func = (s.line l).func ∨ x = resetLine ∨
    ∃ cfg, s.configRefusal l cfg = none ∧ x = s.configured cfg := by
  cases h with
  | driven | converted => exact .inl rfl
  | sampled lv => exact .inl (Line.sample_func _ lv)
  | configured cfg _ hok => exact .inr (.inr ⟨cfg, hok, rfl⟩)
  | reset => exact .inr (.inl rfl)

/-- The bindings move only with CONFIGURE LINE and a reset. -/
theorem Change.bindings_cases (h : Change A s t) :
    ((∀ l, (t.line l).func = (s.line l).func) ∧ ∀ p, (t.probe p).isSome = (s.probe p).isSome) ∨
    (∃ l cfg, s.configRefusal l cfg = none ∧
      t = ((s.endBinding (s.line l).func).setLine l (s.configured cfg)).beginBinding cfg.func) ∨
    ((∀ l, t.line l = resetLine) ∧ ∀ p, t.probe p = none) := by
  have hdrive : ∀ u : State, (∀ m, u.line m = s.line m) → ∀ l, (u.driveLatches.line l).func = (s.line l).func := by
    intro u hu l
    obtain ⟨latch, hl⟩ := u.follow_eq (s.line l)
    rw [State.line_driveLatches, hu, hl]
  have hset : ∀ (m : LineNo) (x : Line), x.func = (s.line m).func → ∀ l, ((s.setLine m x).line l).func = (s.line l).func := by
    intro m x hx l
    rw [State.line_setLine]
    split_ifs with hl
    · rw [hx, hl]
    · rfl
  cases h with
  | configured l cfg _ hok => exact .inr (.inl ⟨l, cfg, hok, rfl⟩)
  | calibrated => exact .inl ⟨fun _ => rfl, fun p => by simp [State.probe]⟩
  | converted l raw =>
    refine .inl ⟨fun m => ?_, fun p => ?_⟩
    · rw [convertLine_line]
      split_ifs with hl
      · rw [hl.1]
      · rfl
    · rw [convertLine_probe]
      split_ifs
      · exact Option.isSome_map
      · rfl
  | latchSet m latch => exact .inl ⟨hset _ _ rfl, fun _ => rfl⟩
  | sampled m lv => exact .inl ⟨hset _ _ (Line.sample_func _ lv), fun _ => rfl⟩
  | cleared => exact .inl ⟨hdrive _ fun _ => rfl, fun _ => rfl⟩
  | departed => exact .inl ⟨hdrive _ fun _ => rfl, fun _ => by rw [State.departed_frame]; rfl⟩
  | driven => exact .inl ⟨hdrive _ fun _ => rfl, fun _ => rfl⟩
  | returned => exact .inl ⟨hdrive _ fun _ => rfl, fun _ => rfl⟩
  | registered => rw [makeComps_frame]; exact .inl ⟨fun _ => rfl, fun _ => rfl⟩
  | handedOut => rw [State.handOut_frame]; exact .inl ⟨fun _ => rfl, fun _ => rfl⟩
  | reset => exact .inr (.inr ⟨resetLines_get, resetProbes_get⟩)
  | _ => exact .inl ⟨fun _ => rfl, fun _ => rfl⟩

/-- An accepted configuration keeps each function at one line, and a probe record exactly where one is bound (R152, R153). -/
theorem bindingsAgree_configured {cfg : LineConfig} (hok : s.configRefusal l cfg = none) (hs : s.bindingsAgree) :
    (((s.endBinding (s.line l).func).setLine l (s.configured cfg)).beginBinding cfg.func).bindingsAgree := by
  obtain ⟨hone, hprobe⟩ := hs
  obtain ⟨-, -, -, -, -, hother⟩ := State.configRefusal_eq_none hok
  have hfunc : ∀ m, ((((s.endBinding (s.line l).func).setLine l (s.configured cfg)).beginBinding cfg.func).line m).func =
      if m = l then cfg.func else (s.line m).func := by
    intro m
    rw [State.configured_frame]
    refine (congrArg Line.func (State.line_setLine ..)).trans ?_
    split_ifs <;> rfl
  refine ⟨fun a b f ha hb => ?_, fun p => ?_⟩
  · rw [hfunc] at ha hb
    split_ifs at ha hb with hal hbl hbl
    · rw [hal, hbl]
    · exact absurd hb (hother b f ha hbl)
    · exact absurd ha (hother a f hb hal)
    · exact hone a b f ha hb
  · simp only [hfunc, configured_probe]
    by_cases hg : cfg.func = some (.rinseProbe p)
    · simpa only [if_pos hg, Option.isSome_some, true_iff] using ⟨l, by rw [if_pos rfl, hg]⟩
    by_cases hf : (s.line l).func = some (.rinseProbe p)
    · refine ⟨fun h => absurd h (by simp [hg, hf]), fun ⟨m, hm⟩ => ?_⟩
      split_ifs at hm with hml
      · exact absurd hm hg
      · exact absurd (hone m l _ hm hf) hml
    · rw [if_neg hg, if_neg hf, hprobe p]
      refine exists_congr fun m => ?_
      by_cases hml : m = l
      · simp [hml, hg, hf]
      · rw [if_neg hml]

theorem Change.bindingsAgree (h : Change A s t) (hs : s.bindingsAgree) : t.bindingsAgree := by
  obtain ⟨hf, hp⟩ | ⟨l, cfg, hok, rfl⟩ | ⟨hl, hp⟩ := h.bindings_cases
  · exact State.bindingsAgree_congr hf hp hs
  · exact bindingsAgree_configured hok hs
  · refine ⟨fun a b f ha => ?_, fun p => ?_⟩
    · rw [hl] at ha; cases ha
    · simp [hl, hp, resetLine]

/-! ### The ports -/

/-- The link, the limit and the capabilities of a port are in their ranges (R158, R171, R174). -/
def PortRec.agrees (x : PortRec) : Prop :=
  (96 ≤ x.limit ∧ x.limit ≤ 240) ∧ (∀ got, x.rx = .header got → 1 ≤ got.length ∧ got.length ≤ 3) ∧
  (∀ got, x.rx = .payload got →
    4 ≤ got.length ∧ got.length < statedLength got + 6 ∧ 1 ≤ statedLength got ∧ statedLength got ≤ 240) ∧
  (x.role ≠ .wash → x.caps = ⟨false, false, false⟩)

theorem State.portsAgree_setPort {x : PortRec} (hx : (s.port p).agrees → x.agrees) (hs : s.portsAgree) :
    (s.setPort p x).portsAgree := by
  intro q
  rw [State.port_setPort]
  split_ifs with hq
  · exact hx (hs p)
  · exact hs q

theorem resetPort_agrees (r : Role) : (resetPort r).agrees := ⟨(by decide : 96 ≤ 128 ∧ 128 ≤ 240), nofun, nofun, fun _ => rfl⟩

theorem Change.portsAgree (h : Change A s t) (hs : s.portsAgree) : t.portsAgree := by
  cases h with
  | link p rx flags hrx =>
    refine State.portsAgree_setPort (fun ⟨hlimit, hheader, hpayload, hcaps⟩ => ?_) hs
    obtain ⟨hheader', hpayload'⟩ := hrx ⟨hheader, hpayload⟩
    exact ⟨hlimit, hheader', hpayload', hcaps⟩
  | limit p n hn => exact State.portsAgree_setPort (fun ⟨_, hrest⟩ => ⟨hn, hrest⟩) hs
  | role p r caps hcaps =>
    exact State.portsAgree_setPort (fun ⟨hlimit, hheader, hpayload, _⟩ => ⟨hlimit, hheader, hpayload, hcaps⟩) hs
  | accessMap => exact State.portsAgree_setPort id hs
  | configured => rw [State.configured_frame]; exact hs
  | converted => rw [State.converted_frame]; exact hs
  | registered => rw [makeComps_frame]; exact hs
  | handedOut => rw [State.handOut_frame]; exact hs
  | departed => rw [State.departed_frame]; exact hs
  | reset =>
    intro p
    cases p <;> exact resetPort_agrees _
  | _ => exact hs

/-- Settles O56: every change keeps the lines, the bindings, the probe records and the ports in agreement. -/
theorem stepKeepsLinesAndPorts : Obligations.StepKeepsLinesAndPorts := by
  intro s t hlines hbindings hprobes hports h
  exact step_induction (P := fun s => s.linesAgree ∧ s.bindingsAgree ∧ s.probesAgree ∧ s.portsAgree) (fun _ _ hs => hs)
    (fun _ _ _ ⟨hl, hb, hp, hq⟩ hc => ⟨hc.linesAgree hl, hc.bindingsAgree hb, hc.probesAgree hp, hc.portsAgree hq⟩)
    ⟨hlines, hbindings, hprobes, hports⟩ h

end Sys2Proof.Machine
end

section
/-! PROOF. Every move keeps the fault count, the overflow flag, the frozen flag, the step dose and the delivered litres of a
record as R65, R74, R83, R102, R104, R118 and R135 bound them. -/

namespace Sys2Proof.Machine

variable {s t : State} {A : Taking} {k : Slot} {c c' : Comp}

/-! ### The fault count (R83) -/

theorem Comp.faultsAgree_of_lt (hlt : c.faults < 3) (hst : ∀ b pl, c.st ≠ .blockedFaults b pl) : c.faultsAgree :=
  ⟨hlt.le, fun h => absurd h hlt.ne, fun ⟨b, pl, h⟩ => absurd h (hst b pl)⟩

theorem Comp.faultsAgree_of_blocked {b : Booking} {pl : Option Plan} (hst : c.st = .blockedFaults b pl)
    (h : c.faults = 3) : c.faultsAgree :=
  ⟨h.le, fun _ => ⟨b, pl, hst⟩, fun _ => h⟩

theorem Comp.faultsAgree.lt (h : c.faultsAgree) (hst : ∀ b pl, c.st ≠ .blockedFaults b pl) : c.faults < 3 :=
  lt_of_le_of_ne h.1 fun h3 => by
    obtain ⟨b, pl, hb⟩ := h.2.1 h3
    exact hst b pl hb

/-- Counting an advance leaves what the record is blocked by. -/
theorem Comp.counted_st_blockedFaults {b : Booking} {pl : Option Plan} (c : Comp) :
    c.counted.st = .blockedFaults b pl ↔ c.st = .blockedFaults b pl := by
  obtain h | ⟨_, _, _, hst, h⟩ | ⟨_, _, _, hst, -, h⟩ := c.counted_cases <;> rw [h]
  · simp [hst]
  · simp [hst]

theorem Comp.faultsAgree_counted (h : c.faultsAgree) : c.counted.faultsAgree := by
  simpa [Comp.faultsAgree, Comp.counted_st_blockedFaults] using h

theorem Comp.faultsAgree_caughtUp (h : c.faultsAgree) : c.caughtUp.faultsAgree := by
  obtain ⟨hc, -⟩ | ⟨hc, -⟩ := c.caughtUp_cases <;> rw [hc]
  · exact h
  · exact Comp.faultsAgree_counted h

theorem Replanned.faults_lt (h : Replanned c c') (hc : c.faultsAgree) : c'.faults < 3 := by
  cases h with
  | booked _ _ hfaults => exact hc.lt hfaults
  | unblocked => exact Nat.zero_lt_succ 2

theorem Move.faultsAgree (h : Move A s k c c') (hc : c.faultsAgree) : c'.faultsAgree := by
  have hrun : ∀ {st}, c.st = st → (∀ b pl, st ≠ .blockedFaults b pl) → c.faults < 3 := fun hst hne => hc.lt (hst ▸ hne)
  cases h with
  | forbidden hr | levelZero _ hr | planned hr => exact Comp.faultsAgree_of_lt (hr.faults_lt hc) nofun
  | keptQueued _ hst | keptReleased _ hst | returned hst | handedOut hst | started hst | inspected hst
  | volumeTaken _ hst | resumed hst | silenced hst => exact Comp.faultsAgree_of_lt (hrun hst nofun) nofun
  | passed _ _ _ hst | fillBegun _ _ _ hst => exact Comp.faultsAgree_of_lt (hrun hst nofun) nofun
  | keptWashed _ hst =>
    obtain ⟨_, hst | ⟨_, hst⟩⟩ := hst <;> exact Comp.faultsAgree_of_lt (hrun hst nofun) nofun
  | backToWashed hst =>
    obtain ⟨_, hst⟩ | ⟨_, hst⟩ := hst <;> exact Comp.faultsAgree_of_lt (hrun hst nofun) nofun
  | bookedBlocked hst => exact Comp.faultsAgree_of_blocked rfl (hc.2.2 ⟨_, _, hst⟩)
  | fillRevoked i hst =>
    exact Comp.faultsAgree_of_lt (by simpa [State.loadComp] using hrun hst nofun) (by simp [State.loadComp])
  | tagRefused i hst | halted i hst =>
    exact Comp.faultsAgree_of_lt (by simpa using hrun hst nofun) (by simp)
  | expired i hst => exact Comp.faultsAgree_of_lt (by simpa using hrun hst nofun) (by simp)
  | acknowledged => exact hc
  | sampled hst hs =>
    refine Comp.faultsAgree_caughtUp ?_
    cases hs <;> exact Comp.faultsAgree_of_lt (hrun hst nofun) nofun
  | rewashed _ _ _ hlt | levelZeroFailed _ _ hlt | overran _ hlt => exact Comp.faultsAgree_of_lt hlt nofun
  | inspectionBlocked | overrunBlocked => exact Comp.faultsAgree_of_blocked (Comp.capture_st _) (Comp.capture_faults _)
  | @fillEnded b pl p r f hs sent hst =>
    have hf : (s.endedFill c b p f (deliveredCount f.delivered sent)).faults = c.faults := by
      unfold State.endedFill
      split_ifs <;> simp [State.loadComp]
    exact Comp.faultsAgree_of_lt (hf ▸ hrun hst nofun) (by rw [endedFill_st]; nofun)
  | caughtUp => exact Comp.faultsAgree_counted hc
  | reached =>
    obtain ⟨-, h⟩ | ⟨-, h⟩ := c.reached_cases <;> rw [h]
    · exact Comp.faultsAgree_counted hc
    · exact hc

/-! ### The overflow flag (R135) -/

theorem Comp.overflowAgrees_capture (i : Incident) : (c.capture i).overflowAgrees := fun _ => Comp.capture_incident_isSome i

theorem Comp.overflowAgrees_congr (ho : c'.overflow = c.overflow) (hi : c'.incident = c.incident) (h : c.overflowAgrees) :
    c'.overflowAgrees := by
  unfold Comp.overflowAgrees at *
  rwa [ho, hi]

theorem Comp.overflowAgrees_counted (h : c.overflowAgrees) : c.counted.overflowAgrees :=
  Comp.overflowAgrees_congr Comp.counted_overflow Comp.counted_incident h

theorem Move.overflowAgrees (h : Move A s k c c') (hc : c.overflowAgrees) : c'.overflowAgrees := by
  cases h with
  | forbidden hr | levelZero _ hr | planned hr => cases hr <;> exact hc
  | acknowledged => nofun
  | fillRevoked | inspectionBlocked | tagRefused | halted | overrunBlocked | expired => exact Comp.overflowAgrees_capture _
  | fillEnded =>
    unfold State.endedFill
    split_ifs
    · exact Comp.overflowAgrees_capture _
    · exact hc
  | sampled =>
    obtain ⟨h, -⟩ | ⟨h, -⟩ := Comp.caughtUp_cases _ <;> rw [h]
    · exact hc
    · exact Comp.overflowAgrees_counted hc
  | caughtUp => exact Comp.overflowAgrees_counted hc
  | reached =>
    obtain ⟨-, h⟩ | ⟨-, h⟩ := c.reached_cases <;> rw [h]
    · exact Comp.overflowAgrees_counted hc
    · exact hc
  | _ => exact hc

/-! ### The frozen flag (R102, R104) -/

theorem Comp.frozenAgrees_of_none (h : c.st.release = none) : c.frozenAgrees :=
  ⟨fun _ _ _ hst => absurd h (by rw [hst]; nofun), fun _ _ _ _ _ _ hst => absurd h (by rw [hst]; nofun)⟩

theorem Comp.frozenAgrees_released {b : Booking} {pl : Plan} {r : Release} (hst : c.st = .released b pl r) :
    c.frozenAgrees ↔ r.frozen = false := by
  simp [Comp.frozenAgrees, hst]

theorem Comp.frozenAgrees_filling {b : Booking} {pl : Plan} {h : Port} {r : Release} {f : Fill} {hs : HaltSet}
    (hst : c.st = .filling b pl h r f hs) : c.frozenAgrees ↔ r.frozen = true := by
  refine ⟨fun h => h.2 _ _ _ _ _ _ hst, fun h => ⟨fun _ _ _ hst' => ?_, fun _ _ _ _ _ _ hst' => ?_⟩⟩
  · cases hst.symm.trans hst'
  · cases hst.symm.trans hst'
    exact h

theorem Comp.frozenAgrees_counted (h : c.frozenAgrees) : c.counted.frozenAgrees := by
  obtain hc | ⟨_, _, _, -, hc⟩ | ⟨_, _, _, -, hr, hc⟩ := c.counted_cases <;> rw [hc]
  · exact h
  · exact Comp.frozenAgrees_of_none rfl
  · exact (Comp.frozenAgrees_released (Comp.withSt_st _)).2 hr

theorem Move.frozenAgrees (h : Move A s k c c') (hc : c.frozenAgrees) : c'.frozenAgrees := by
  cases h with
  | keptReleased _ hst => exact (Comp.frozenAgrees_released (Comp.withSt_st _)).2 ((Comp.frozenAgrees_released hst).1 hc)
  | passed => exact (Comp.frozenAgrees_released rfl).2 rfl
  | fillBegun => exact (Comp.frozenAgrees_filling (Comp.withSt_st _)).2 rfl
  | volumeTaken _ hst | resumed hst =>
    exact (Comp.frozenAgrees_filling (Comp.withSt_st _)).2 ((Comp.frozenAgrees_filling hst).1 hc)
  | halted i hst => exact (Comp.frozenAgrees_filling (Comp.capture_st i)).2 ((Comp.frozenAgrees_filling hst).1 hc)
  | acknowledged => exact hc
  | sampled _ hs =>
    obtain ⟨h, -⟩ | ⟨h, -⟩ := Comp.caughtUp_cases _ <;> rw [h]
    · cases hs <;> exact Comp.frozenAgrees_of_none rfl
    · refine Comp.frozenAgrees_counted (c := { c with st := _, performed := _ }) ?_
      cases hs <;> exact Comp.frozenAgrees_of_none rfl
  | caughtUp => exact Comp.frozenAgrees_counted hc
  | reached =>
    obtain ⟨-, h⟩ | ⟨-, h⟩ := c.reached_cases <;> rw [h]
    · exact Comp.frozenAgrees_counted hc
    · exact hc
  | fillEnded => exact Comp.frozenAgrees_of_none (by rw [endedFill_st]; rfl)
  | fillRevoked | inspectionBlocked | tagRefused | overrunBlocked | expired =>
    exact Comp.frozenAgrees_of_none (by rw [Comp.capture_st]; rfl)
  | _ => exact Comp.frozenAgrees_of_none rfl

/-! ### The step dose and the delivered litres (R65, R74, R118) -/

theorem newPlan_dose {n : Nat} {food : Bool} {pl : Plan} (h : s.newPlan n food = some pl) : pl.dose = 0 := by
  rw [(newPlan_eq_some h).2]

/-- A plan after a move has dose 0, the dose of the plan before, or a dose limited to 65535. -/
theorem Move.dose (h : Move A s k c c') {pl' : Plan} (hpl' : c'.st.plan = some pl') :
    pl'.dose ≤ 65535 ∨ ∃ pl, c.st.plan = some pl ∧ pl'.dose = pl.dose := by
  have hkeep : ∀ {st pl}, c.st = st → st.plan = some pl → pl'.dose = pl.dose → pl'.dose ≤ 65535 ∨
      ∃ pl, c.st.plan = some pl ∧ pl'.dose = pl.dose := fun hst hpl hd => .inr ⟨_, hst ▸ hpl, hd⟩
  have hcounted : ∀ d : Comp, d.counted.st.plan = some pl' → ∃ pl, d.st.plan = some pl ∧ pl'.dose = pl.dose := by
    intro d hd
    obtain hc | ⟨_, pl, _, hst, hc⟩ | ⟨_, pl, _, hst, -, hc⟩ := d.counted_cases <;> rw [hc] at hd
    · exact ⟨pl', hd, rfl⟩
    · cases hd; exact ⟨pl, by rw [hst]; rfl, rfl⟩
    · cases hd; exact ⟨pl', by rw [hst]; rfl, rfl⟩
  cases h with
  | forbidden => cases hpl'
  | levelZero => cases hpl'; exact .inl (Nat.zero_le _)
  | planned _ _ hplan =>
    cases hpl'
    obtain ⟨n, food, -, -, hplan⟩ := hplan
    exact .inl (newPlan_dose hplan ▸ Nat.zero_le _)
  | keptQueued _ hst | keptReleased _ hst | returned hst | handedOut hst | started hst | inspected hst
  | levelZeroFailed hst | volumeTaken _ hst | resumed hst | silenced hst | overran hst =>
    cases hpl'; exact hkeep hst rfl rfl
  | passed _ _ _ hst | fillBegun _ _ _ hst => cases hpl'; exact hkeep hst rfl rfl
  | keptWashed _ hst => obtain ⟨_, hst | ⟨_, hst⟩⟩ := hst <;> cases hpl' <;> exact hkeep hst rfl rfl
  | backToWashed hst => obtain ⟨_, hst⟩ | ⟨_, hst⟩ := hst <;> cases hpl' <;> exact hkeep hst rfl rfl
  | bookedBlocked hst _ hplan =>
    obtain ⟨food, rfl⟩ | ⟨n, food, -, -, hplan⟩ := hplan pl' hpl'
    · exact .inl (Nat.zero_le _)
    · exact .inl (newPlan_dose hplan ▸ Nat.zero_le _)
  | rewashed => cases hpl'; exact .inl (Nat.zero_le _)
  | inspectionBlocked _ hst | tagRefused _ hst | halted _ hst | overrunBlocked _ hst | expired _ hst =>
    rw [Comp.capture_st] at hpl'
    cases hpl'
    exact hkeep hst rfl rfl
  | fillRevoked => rw [Comp.capture_st] at hpl'; cases hpl'
  | fillEnded => rw [endedFill_st] at hpl'; cases hpl'
  | acknowledged => exact .inr ⟨pl', hpl', rfl⟩
  | sampled hst hs =>
    obtain ⟨pl, hpl, hd⟩ : ∃ pl, CompState.plan _ = some pl ∧ pl'.dose = pl.dose := by
      obtain ⟨h, -⟩ | ⟨h, -⟩ := Comp.caughtUp_cases _ <;> rw [h] at hpl'
      · exact ⟨pl', hpl', rfl⟩
      · exact hcounted _ hpl'
    cases hs with
    | mismatched => cases hpl; exact hkeep hst rfl hd
    | running dose hdose =>
      cases hpl
      obtain hdose | hdose := hdose
      · exact hkeep hst rfl (hd.trans hdose)
      · exact .inl (hd ▸ hdose)
    | stepDone => cases hpl; exact .inl (hd ▸ Nat.zero_le _)
    | planDone dose _ hdose => cases hpl; exact .inl (hd ▸ hdose)
  | caughtUp => exact .inr (hcounted c hpl')
  | reached =>
    obtain ⟨-, h⟩ | ⟨-, h⟩ := c.reached_cases <;> rw [h] at hpl'
    · exact .inr (hcounted c hpl')
    · exact .inr ⟨pl', hpl', rfl⟩

theorem deliveredCount_le {stored sent : Nat} (h : stored ≤ 65535) : deliveredCount stored sent ≤ 65535 := by
  unfold deliveredCount
  omega

theorem Comp.counted_fill (c : Comp) : c.counted.st.fill = c.st.fill := by
  obtain h | ⟨_, _, _, hst, h⟩ | ⟨_, _, _, hst, -, h⟩ := c.counted_cases <;> rw [h]
  · rw [hst]; rfl
  · rw [hst]; rfl

theorem Comp.caughtUp_fill (c : Comp) : c.caughtUp.st.fill = c.st.fill := by
  obtain ⟨h, -⟩ | ⟨h, -⟩ := c.caughtUp_cases <;> rw [h]
  exact c.counted_fill

/-- All that a move makes of a fill: none, a new one, the same with more litres, or the same with another halt set. -/
theorem Move.fill_cases (h : Move A s k c c') {f' : Fill} {hs' : HaltSet} (hf : c'.st.fill = some (f', hs')) :
    (∃ b pl r, c.st = .released b pl r ∧ 1 ≤ r.target ∧ hs' = noHalts ∧
      ∃ a, s.fillOn a = none ∧ f' = s.newFill c a r.target) ∨
    ∃ f hs, c.st.fill = some (f, hs) ∧
      ((∃ sent, f' = (reported f hs sent).1 ∧ hs' = (reported f hs sent).2) ∨ f' = f ∧ hs'.limit = hs.limit) := by
  have hkeep : ∀ {f hs}, c.st.fill = some (f, hs) → f' = f → hs'.limit = hs.limit → ∃ f hs, c.st.fill = some (f, hs) ∧
      ((∃ sent, f' = (reported f hs sent).1 ∧ hs' = (reported f hs sent).2) ∨ f' = f ∧ hs'.limit = hs.limit) :=
    fun hfill hff hhs => ⟨_, _, hfill, .inr ⟨hff, hhs⟩⟩
  cases h with
  | fillBegun _ _ _ hst _ htarget _ hfree =>
    cases hf
    exact .inl ⟨_, _, _, hst, htarget, rfl, _, hfree, rfl⟩
  | volumeTaken sent hst =>
    cases hf
    exact .inr ⟨_, _, by rw [hst]; rfl, .inl ⟨sent, rfl, rfl⟩⟩
  | resumed hst hlimit => cases hf; exact .inr <| hkeep (by rw [hst]; rfl) rfl hlimit.symm
  | halted i hst hlimit =>
    rw [Comp.capture_st] at hf
    cases hf
    exact .inr <| hkeep (by rw [hst]; rfl) rfl hlimit
  | acknowledged => exact .inr <| hkeep hf rfl rfl
  | sampled hst hs =>
    rw [Comp.caughtUp_fill] at hf
    cases hs <;> cases hf
  | caughtUp => exact .inr <| hkeep (c.counted_fill ▸ hf) rfl rfl
  | reached =>
    obtain ⟨-, h⟩ | ⟨-, h⟩ := c.reached_cases <;> rw [h] at hf
    · exact .inr <| hkeep (c.counted_fill ▸ hf) rfl rfl
    · exact .inr <| hkeep hf rfl rfl
  | fillEnded => rw [endedFill_st] at hf; cases hf
  | fillRevoked | inspectionBlocked | tagRefused | overrunBlocked | expired => rw [Comp.capture_st] at hf; cases hf
  | _ => cases hf

theorem Move.countsBounded (h : Move A s k c c') (hc : c.countsBounded) : c'.countsBounded := by
  obtain ⟨hdose, hdelivered⟩ := hc
  refine ⟨fun pl' hpl' => ?_, fun f' hs' hf => ?_⟩
  · obtain hle | ⟨pl, hpl, heq⟩ := h.dose hpl'
    · exact hle
    · exact heq ▸ hdose pl hpl
  · obtain ⟨_, _, _, -, -, -, _, -, rfl⟩ | ⟨f, hs, hfill, ⟨sent, rfl, -⟩ | ⟨rfl, -⟩⟩ := h.fill_cases hf
    · exact Nat.zero_le _
    · exact deliveredCount_le (hdelivered f hs hfill)
    · exact hdelivered f' hs hfill

/-! ### The records together -/

/-- What `recordsAgree` says of one record. -/
def Comp.agrees (c : Comp) : Prop := c.faultsAgree ∧ c.overflowAgrees ∧ c.frozenAgrees ∧ c.countsBounded

theorem Move.agrees (h : Move A s k c c') (hc : c.agrees) : c'.agrees := by
  obtain ⟨hfaults, hoverflow, hfrozen, hcounts⟩ := hc
  exact ⟨h.faultsAgree hfaults, h.overflowAgrees hoverflow, h.frozenAgrees hfrozen, h.countsBounded hcounts⟩

theorem NewRecord.agrees (h : NewRecord s c) : c.agrees := by
  cases h
  exact ⟨Comp.faultsAgree_of_lt (Nat.zero_lt_succ 2) nofun, nofun, Comp.frozenAgrees_of_none rfl, nofun, nofun⟩

theorem Change.recordsAgree (h : Change A s t) (hs : s.recordsAgree) : t.recordsAgree :=
  h.records_induction (P := Comp.agrees) hs (fun _ _ _ hc => hc) (fun _ _ _ _ hc hm => hm.agrees hc) fun _ hc => hc.agrees

end Sys2Proof.Machine
end

section
/-! PROOF. Every move keeps the parts of a record in their ranges (R3, R5, R6, R7, R10), a running step below its ends (R65,
R72, R81, R82), a flowing fill below its limit (R116, R117), and every advance counted or owed at its expiry (R131). -/

namespace Sys2Proof.Machine

variable {s t : State} {A : Taking} {k : Slot} {c c' : Comp} {pl : Plan}

/-! ### Plans in their ranges -/

/-- A plan with a level has a step at its current index, and the step's fields are in range (R5, R32). -/
theorem Plan.rangesAgree.current (h : pl.rangesAgree) (hl : 1 ≤ pl.level) :
    pl.steps[pl.index - 1]? = some pl.current ∧ pl.current.legal := by
  obtain ⟨-, -, hzero, ⟨hi, hi'⟩, hlegal, -⟩ := h
  have hpos : 0 < pl.steps.length := List.length_pos_iff.2 fun h0 => by
    have := hzero.2 h0
    omega
  have hlt : pl.index - 1 < pl.steps.length := by omega
  have hget : pl.steps[pl.index - 1]? = some pl.steps[pl.index - 1] := List.getElem?_eq_getElem hlt
  have hcur : pl.current = pl.steps[pl.index - 1] := by
    unfold Plan.current
    rw [hget]
  exact ⟨hcur ▸ hget, hcur ▸ hlegal _ (List.getElem_mem hlt)⟩

theorem zeroPlan_rangesAgree (old : Option Plan) (food : Bool) : (zeroPlan old food).rangesAgree := by
  simp [Plan.rangesAgree, zeroPlan]

theorem Plan.rangesAgree_rebooked (h : pl.rangesAgree) (food : Bool) : (pl.rebooked food).rangesAgree := h

theorem Plan.rangesAgree_counts {dose active silence mismatch : Nat} {foodBay : Bool} (h : pl.rangesAgree)
    (ha : active ≤ 7200) (hs : silence ≤ 60) (hm : mismatch ≤ 3) :
    ({ pl with dose := dose, active := active, silence := silence, mismatch := mismatch, foodBay := foodBay } :
      Plan).rangesAgree := by
  obtain ⟨hlevel, hlength, hzero, hindex, hlegal, -⟩ := h
  exact ⟨hlevel, hlength, hzero, hindex, hlegal, ha, hs, hm⟩

theorem Plan.rangesAgree.active_le (h : pl.rangesAgree) : pl.active ≤ 7200 := by
  obtain ⟨-, -, -, -, -, ha, -⟩ := h
  exact ha

theorem Plan.rangesAgree_started (h : pl.rangesAgree) : pl.started.rangesAgree := by
  refine Plan.rangesAgree_counts h ?_ (Nat.zero_le _) (Nat.zero_le _)
  split_ifs
  · exact h.active_le
  · exact Nat.zero_le _

theorem Plan.rangesAgree_stopped (h : pl.rangesAgree) : pl.stopped.rangesAgree :=
  Plan.rangesAgree_counts h h.active_le (Nat.zero_le _) (Nat.zero_le _)

theorem Plan.rangesAgree_ticked (h : pl.rangesAgree) (hl : 1 ≤ pl.level) (ha : pl.active < pl.current.maxActive)
    (hs : pl.silence < 60) : pl.ticked.rangesAgree := by
  have hlegal := (h.current hl).2
  obtain ⟨-, -, -, -, hmax⟩ := hlegal
  have hm := h.2.2.2.2.2.2.2
  exact Plan.rangesAgree_counts h (by omega) hs hm

theorem Plan.rangesAgree_nextStep (h : pl.rangesAgree) (hmore : pl.index < pl.steps.length) (food : Bool) :
    (pl.nextStep food).rangesAgree := by
  obtain ⟨hlevel, hlength, hzero, -, hlegal, -⟩ := h
  exact ⟨hlevel, hlength, hzero, ⟨Nat.succ_le_succ (Nat.zero_le _), le_max_of_le_left hmore⟩, hlegal, Nat.zero_le _,
    Nat.zero_le _, Nat.zero_le _⟩

theorem Plan.rangesAgree_restarted (h : pl.rangesAgree) : pl.restarted.rangesAgree := by
  obtain ⟨hlevel, hlength, hzero, -, hlegal, -⟩ := h
  exact ⟨hlevel, hlength, hzero, ⟨le_rfl, le_max_right _ _⟩, hlegal, Nat.zero_le _, Nat.zero_le _, Nat.zero_le _⟩

/-- A derived level is from 0 to 6 (R24, R28, R34). -/
theorem derive_le (hs : s.plannerAgrees) (hc : s.refsListed c) {cls : ClassNo} {food : Bool} {n : Nat}
    (h : s.derive c cls food = .level n) : n ≤ 6 := by
  obtain ⟨-, -, hlegal, hmatrix, -⟩ := hs
  unfold State.derive at h
  split at h
  · cases h; rfl
  next l hl =>
    have hafter : s.minLevelAfter l.code ≤ 6 := by
      unfold State.minLevelAfter
      split_ifs with h0
      · exact Nat.zero_le _
      · have hlisted := hc.1 l hl
        rw [State.listed, if_neg h0] at hlisted
        obtain ⟨e, he, -⟩ := hlisted
        rw [he]
        exact (hlegal e (State.product_mem he).1).2.2.1
    have hrow := hmatrix l.cls cls
    split_ifs at h with h7 h0 hfood
    · cases h; exact Nat.succ_le_succ (Nat.zero_le _)
    · cases h; exact Nat.zero_le _
    · cases h; omega

theorem State.plansAnew.rangesAgree {b : Booking} (h : s.plansAnew c b pl) (hs : s.plannerAgrees) (hc : s.refsListed c) :
    pl.rangesAgree ∧ 1 ≤ pl.level ∧ pl.silence = 0 ∧ pl.mismatch = 0 := by
  obtain ⟨n, food, hn, hderive, hplan⟩ := h
  obtain ⟨hne, rfl⟩ := newPlan_eq_some hplan
  have hlevel : n ≤ 6 := derive_le hs hc hderive
  obtain ⟨-, -, -, -, -, hprograms⟩ := hs
  obtain ⟨hlength, hlegal⟩ : (s.program n).length ≤ 6 ∧ ∀ st ∈ s.program n, st.legal := hprograms _
  refine ⟨⟨hlevel, hlength, ⟨fun h0 => ?_, fun h0 => absurd h0 hne⟩, ⟨le_rfl, le_max_right _ _⟩, hlegal,
    Nat.zero_le _, Nat.zero_le _, Nat.zero_le _⟩, hn, rfl, rfl⟩
  change n = 0 at h0
  omega

/-! ### The expiry that stands before a record -/

theorem Comp.nextExpiry_washing {b : Booking} {h : Port} (hst : c.st = .washing b pl h .active) :
    c.nextExpiry = none ↔ pl.active + 1 < pl.current.maxActive ∧ pl.silence + 1 < 60 := by
  unfold Comp.nextExpiry
  rw [hst]
  simp only [Config.silenceLimit]
  split_ifs with h1 h2
  all_goals simp; omega

theorem Comp.nextExpiry_released {b : Booking} {r : Release} (hst : c.st = .released b pl r) (hr : r.frozen = false) :
    c.nextExpiry = none ↔ 2 ≤ r.remaining := by
  unfold Comp.nextExpiry
  rw [hst]
  simp [hr]
  omega

/-! ### Progress (R65, R72, R81, R82) -/

/-- What `progressAgrees` says of a WASHING compartment. -/
theorem Comp.progressAgrees_washing {b : Booking} {h : Port} {ph : WashPhase} (hst : c.st = .washing b pl h ph) :
    c.progressAgrees ↔ 1 ≤ pl.level ∧ (ph = .between → pl.silence = 0 ∧ pl.mismatch = 0) ∧
      (ph = .active → pl.silence < 60 ∧ pl.mismatch < 3 ∧
        ∀ st, pl.steps[pl.index - 1]? = some st → pl.active < st.maxActive) := by
  refine ⟨fun hp => hp.2 b pl h ph hst, fun hp => ⟨fun _ _ hst' => ?_, fun _ _ _ _ hst' => ?_⟩⟩
  · cases hst.symm.trans hst'
  · cases hst.symm.trans hst'
    exact hp

theorem Comp.progressAgrees_queued {b : Booking} (hst : c.st = .queued b pl) :
    c.progressAgrees ↔ 1 ≤ pl.level ∧ pl.silence = 0 ∧ pl.mismatch = 0 := by
  refine ⟨fun hp => hp.1 b pl hst, fun hp => ⟨fun _ _ hst' => ?_, fun _ _ _ _ hst' => ?_⟩⟩
  · cases hst.symm.trans hst'
    exact hp
  · cases hst.symm.trans hst'

/-- The states whose plan makes no progress. -/
def CompState.untimed : CompState → Prop
  | .queued .. => False
  | .washing .. => False
  | _ => True

theorem Comp.progressAgrees_of_untimed (h : c.st.untimed) : c.progressAgrees :=
  ⟨fun _ _ hst => absurd h (by rw [hst]; exact id), fun _ _ _ _ hst => absurd h (by rw [hst]; exact id)⟩

/-- The plan of a record is in its ranges. -/
def Comp.planAgrees (c : Comp) : Prop := ∀ pl, c.st.plan = some pl → pl.rangesAgree

theorem Comp.planAgrees_of (hst : c.st.plan = some pl) (h : pl.rangesAgree) : c.planAgrees := fun _ hpl => by
  cases hst.symm.trans hpl
  exact h

theorem Comp.planAgrees_of_none (hst : c.st.plan = none) : c.planAgrees := fun _ hpl => by cases hst.symm.trans hpl

theorem Comp.timed_capture (i : Incident) (h : c.planAgrees ∧ c.progressAgrees) :
    (c.capture i).planAgrees ∧ (c.capture i).progressAgrees := by
  simpa only [Comp.planAgrees, Comp.progressAgrees, Comp.capture_st] using h

/-- A running step stands below its maximum (R82). -/
theorem Comp.running {b : Booking} {h : Port} (hst : c.st = .washing b pl h .active) (hp : c.planAgrees)
    (hc : c.progressAgrees) :
    pl.rangesAgree ∧ 1 ≤ pl.level ∧ pl.silence < 60 ∧ pl.mismatch < 3 ∧ pl.active < pl.current.maxActive := by
  have hpl := hp pl (by rw [hst]; rfl)
  obtain ⟨hl, -, hactive⟩ := (Comp.progressAgrees_washing hst).1 hc
  obtain ⟨hs, hm, ha⟩ := hactive rfl
  exact ⟨hpl, hl, hs, hm, ha _ (hpl.current hl).1⟩

/-- A step that runs on below its ends. -/
theorem Comp.progressAgrees_running {b : Booking} {h : Port} (hst : c.st = .washing b pl h .active) (hl : 1 ≤ pl.level)
    (hs : pl.silence < 60) (hm : pl.mismatch < 3) (ha : pl.active < pl.current.maxActive) : c.progressAgrees := by
  refine (Comp.progressAgrees_washing hst).2 ⟨hl, nofun, fun _ => ⟨hs, hm, fun st hget => ?_⟩⟩
  have hcur : pl.current = st := by
    unfold Plan.current
    rw [hget]
  exact hcur ▸ ha

theorem Comp.counted_timed (hnone : c.nextExpiry = none) (hp : c.planAgrees) (hc : c.progressAgrees) :
    c.counted.planAgrees ∧ c.counted.progressAgrees := by
  obtain h | ⟨b, pl, h, hst, hcount⟩ | ⟨b, pl, r, hst, -, hcount⟩ := c.counted_cases
  · rw [h]; exact ⟨hp, hc⟩
  · rw [hcount]
    obtain ⟨hpl, hl, hs, hm, ha⟩ := Comp.running hst hp hc
    obtain ⟨ha', hs'⟩ := (Comp.nextExpiry_washing hst).1 hnone
    exact ⟨Comp.planAgrees_of rfl (Plan.rangesAgree_ticked hpl hl ha hs),
      Comp.progressAgrees_running rfl hl hs' hm ha'⟩
  · rw [hcount]
    exact ⟨Comp.planAgrees_of rfl (hp pl (by rw [hst]; rfl)), Comp.progressAgrees_of_untimed trivial⟩

theorem Comp.caughtUp_timed (hp : c.planAgrees) (hc : c.progressAgrees) : c.caughtUp.planAgrees ∧ c.caughtUp.progressAgrees := by
  unfold Comp.caughtUp
  split_ifs with h
  · exact Comp.counted_timed h.2 hp hc
  · exact ⟨hp, hc⟩

theorem Comp.reached_timed (hp : c.planAgrees) (hc : c.progressAgrees) : c.reached.planAgrees ∧ c.reached.progressAgrees := by
  obtain ⟨hnone, h⟩ | ⟨-, h⟩ := c.reached_cases <;> rw [h]
  · exact Comp.counted_timed hnone hp hc
  · exact ⟨hp, hc⟩

/-- A WASH SAMPLE leaves a plan in its ranges, and a running step below its ends. -/
theorem Sampled.timed {b : Booking} {h : Port} {st : CompState} {n : Nat} (hs : Sampled b pl h c.performed st n)
    (hst : c.st = .washing b pl h .active) (hp : c.planAgrees) (hc : c.progressAgrees) :
    ({ c with st := st, performed := n } : Comp).planAgrees ∧ ({ c with st := st, performed := n } : Comp).progressAgrees := by
  obtain ⟨hpl, hl, hs60, hm, ha⟩ := Comp.running hst hp hc
  have hactive := hpl.active_le
  cases hs with
  | mismatched =>
    refine ⟨Comp.planAgrees_of rfl (Plan.rangesAgree_counts hpl hactive (Nat.zero_le _) hm), ?_⟩
    by_cases h3 : 3 ≤ pl.mismatch + 1
    · refine (Comp.progressAgrees_washing (pl := { pl with silence := 0, mismatch := pl.mismatch + 1 }) rfl).2
        ⟨hl, fun h => ?_, fun h => ?_⟩ <;> simp [h3] at h
    · exact Comp.progressAgrees_running (congrArg _ (if_neg h3)) hl (Nat.zero_lt_succ _) (Nat.lt_of_not_le h3) ha
  | running dose =>
    exact ⟨Comp.planAgrees_of rfl (Plan.rangesAgree_counts hpl hactive (Nat.zero_le _) (Nat.zero_le _)),
      Comp.progressAgrees_running rfl hl (Nat.zero_lt_succ _) (Nat.zero_lt_succ _) ha⟩
  | stepDone food hmore =>
    exact ⟨Comp.planAgrees_of rfl (Plan.rangesAgree_nextStep hpl hmore food),
      (Comp.progressAgrees_washing (pl := pl.nextStep food) rfl).2 ⟨hl, fun _ => ⟨rfl, rfl⟩, nofun⟩⟩
  | planDone =>
    exact ⟨Comp.planAgrees_of rfl (Plan.rangesAgree_counts hpl hactive (Nat.zero_le _) (Nat.zero_le _)),
      Comp.progressAgrees_of_untimed trivial⟩

/-- Every move keeps the plan in its ranges and a running step below its ends. -/
theorem Move.timed (h : Move A s k c c') (hs : s.plannerAgrees) (hr : s.refsListed c) (hp : c.planAgrees)
    (hc : c.progressAgrees) : c'.planAgrees ∧ c'.progressAgrees := by
  have hkeep : ∀ {st pl}, c.st = st → st.plan = some pl → pl.rangesAgree := fun hst hpl => hp _ (hst ▸ hpl)
  have hrest : ∀ {d : Comp} {pl}, d.st.plan = some pl → pl.rangesAgree → d.st.untimed → d.planAgrees ∧ d.progressAgrees :=
    fun hpl hag hu => ⟨Comp.planAgrees_of hpl hag, Comp.progressAgrees_of_untimed hu⟩
  have hbare : ∀ {d : Comp}, d.st.plan = none → d.st.untimed → d.planAgrees ∧ d.progressAgrees :=
    fun hpl hu => ⟨Comp.planAgrees_of_none hpl, Comp.progressAgrees_of_untimed hu⟩
  have hstalled : ∀ {d : Comp} {b b' pl h cause}, c.st = .washing b pl h .active →
      d.st = .washing b' pl.ticked h (.stalled cause) → d.planAgrees ∧ d.progressAgrees := by
    intro d b b' pl h cause hst hd
    obtain ⟨hpl, hl, hs60, -, ha⟩ := Comp.running hst hp hc
    exact ⟨Comp.planAgrees_of (by rw [hd]; rfl) (Plan.rangesAgree_ticked hpl hl ha hs60),
      (Comp.progressAgrees_washing hd).2 ⟨hl, nofun, nofun⟩⟩
  cases h with
  | forbidden => exact hbare rfl trivial
  | levelZero => exact hrest rfl (zeroPlan_rangesAgree ..) trivial
  | planned _ _ hplan =>
    obtain ⟨hag, hprogress⟩ := hplan.rangesAgree hs hr
    exact ⟨Comp.planAgrees_of rfl hag, (Comp.progressAgrees_queued (Comp.withSt_st _)).2 hprogress⟩
  | keptQueued food hst =>
    exact ⟨Comp.planAgrees_of rfl (Plan.rangesAgree_rebooked (hkeep hst rfl) food),
      (Comp.progressAgrees_queued (Comp.withSt_st _)).2 ((Comp.progressAgrees_queued hst).1 hc)⟩
  | keptWashed food hst =>
    obtain ⟨_, hst | ⟨_, hst⟩⟩ := hst <;> exact hrest rfl (Plan.rangesAgree_rebooked (hkeep hst rfl) food) trivial
  | keptReleased food hst => exact hrest rfl (Plan.rangesAgree_rebooked (hkeep hst rfl) food) trivial
  | @bookedBlocked _ _ _ npl hst _ hplan =>
    refine ⟨fun pl hpl => ?_, Comp.progressAgrees_of_untimed trivial⟩
    obtain ⟨food, rfl⟩ | hanew := hplan pl hpl
    · exact zeroPlan_rangesAgree ..
    · exact (hanew.rangesAgree hs hr).1
  | returned hst =>
    have hl := ((Comp.progressAgrees_washing hst).1 hc).1
    exact ⟨Comp.planAgrees_of rfl (Plan.rangesAgree_stopped (hkeep hst rfl)),
      (Comp.progressAgrees_queued (Comp.withSt_st _)).2 ⟨hl, rfl, rfl⟩⟩
  | backToWashed hst => obtain ⟨_, hst⟩ | ⟨_, hst⟩ := hst <;> exact hrest rfl (hkeep hst rfl) trivial
  | fillRevoked => exact Comp.timed_capture _ (hbare rfl trivial)
  | acknowledged => exact ⟨hp, hc⟩
  | handedOut hst =>
    obtain ⟨hl, hprogress⟩ := (Comp.progressAgrees_queued hst).1 hc
    exact ⟨Comp.planAgrees_of rfl (hkeep hst rfl),
      (Comp.progressAgrees_washing (Comp.withSt_st _)).2 ⟨hl, fun _ => hprogress, nofun⟩⟩
  | started hst =>
    have hpl := hkeep hst rfl
    have hl := ((Comp.progressAgrees_washing hst).1 hc).1
    obtain ⟨-, -, -, hmax, -⟩ := (hpl.current hl).2
    refine ⟨Comp.planAgrees_of rfl (Plan.rangesAgree_started hpl),
      Comp.progressAgrees_running rfl hl (Nat.zero_lt_succ _) (Nat.zero_lt_succ _) ?_⟩
    show (if _ then _ else _) < _
    split_ifs with hlt
    · exact hlt
    · exact Nat.lt_of_lt_of_le (Nat.zero_lt_succ _) hmax
  | sampled hst hsample =>
    obtain ⟨hp', hc'⟩ := hsample.timed hst hp hc
    exact Comp.caughtUp_timed hp' hc'
  | inspected hst | levelZeroFailed hst => exact hrest rfl (hkeep hst rfl) trivial
  | passed _ _ _ hst | fillBegun _ _ _ hst => exact hrest rfl (hkeep hst rfl) trivial
  | @rewashed b pl _ _ _ hst _ hsteps =>
    have hpl := hkeep hst rfl
    refine ⟨Comp.planAgrees_of rfl (Plan.rangesAgree_restarted hpl),
      (Comp.progressAgrees_queued (pl := pl.restarted) rfl).2 ⟨?_, rfl, rfl⟩⟩
    exact Nat.pos_of_ne_zero fun h0 => hsteps (hpl.2.2.1.1 h0)
  | inspectionBlocked _ hst | tagRefused _ hst | halted _ hst | expired _ hst =>
    exact Comp.timed_capture _ (hrest rfl (hkeep hst rfl) trivial)
  | overrunBlocked _ hst =>
    obtain ⟨hpl, hl, hs60, -, ha⟩ := Comp.running hst hp hc
    exact Comp.timed_capture _
      (hrest rfl (Plan.rangesAgree_stopped (Plan.rangesAgree_ticked hpl hl ha hs60)) trivial)
  | volumeTaken _ hst | resumed hst => exact hrest rfl (hkeep hst rfl) trivial
  | fillEnded => exact hbare (by rw [endedFill_st]; rfl) (by rw [endedFill_st]; trivial)
  | silenced hst | overran hst => exact hstalled hst rfl
  | caughtUp hnone => exact Comp.counted_timed hnone hp hc
  | reached => exact Comp.reached_timed hp hc

end Sys2Proof.Machine
end

section
/-! PROOF. Every step keeps the tables in agreement, every part of a record in its range, a flowing fill below its limit, and
no advance uncounted by a running timer (R1, R2, R83, R104, R131, R135). -/

namespace Sys2Proof.Machine

variable {s t : State} {A : Taking} {k : Slot} {c c' : Comp}

/-! ### The parts of a record beside its state -/

theorem endedFill_capacity {b : Booking} {p : Port} {f : Fill} {n : Nat} : (s.endedFill c b p f n).capacity = c.capacity := by
  unfold State.endedFill
  split_ifs
  · exact Comp.capture_capacity _
  · rfl

theorem endedFill_performed {b : Booking} {p : Port} {f : Fill} {n : Nat} :
    (s.endedFill c b p f n).performed = c.performed := by
  unfold State.endedFill
  split_ifs
  · exact Comp.capture_performed _
  · rfl

theorem endedFill_reading {b : Booking} {p : Port} {f : Fill} {n : Nat} : (s.endedFill c b p f n).reading = c.reading := by
  unfold State.endedFill
  split_ifs
  · exact Comp.capture_reading _
  · rfl

/-- An update that counts an advance leaves capacity, performed level and reading. -/
theorem Comp.caughtUp_parts (c : Comp) :
    c.caughtUp.capacity = c.capacity ∧ c.caughtUp.performed = c.performed ∧ c.caughtUp.reading = c.reading := by
  obtain ⟨h, -⟩ | ⟨h, -⟩ := c.caughtUp_cases <;> rw [h]
  · exact ⟨rfl, rfl, rfl⟩
  · simp

theorem Comp.reached_parts (c : Comp) :
    c.reached.capacity = c.capacity ∧ c.reached.performed = c.performed ∧ c.reached.reading = c.reading := by
  obtain ⟨-, h⟩ | ⟨-, h⟩ := c.reached_cases <;> rw [h]
  · simp
  · exact ⟨rfl, rfl, rfl⟩

theorem Move.capacity (h : Move A s k c c') : c'.capacity = c.capacity := by
  cases h with
  | forbidden hr | planned hr | levelZero _ hr => cases hr <;> rfl
  | fillRevoked | inspectionBlocked | tagRefused | halted | overrunBlocked | expired => exact Comp.capture_capacity _
  | fillEnded => exact endedFill_capacity
  | sampled => exact (Comp.caughtUp_parts _).1
  | caughtUp => exact Comp.counted_capacity
  | reached => exact c.reached_parts.1
  | _ => rfl

/-- The performed level becomes 0, the level of the plan completed, or stays (R41, R78, R98). -/
theorem Move.performed_le (h : Move A s k c c') (hp : c.planAgrees) (hc : c.performed ≤ 6) : c'.performed ≤ 6 := by
  cases h with
  | forbidden hr | planned hr => cases hr <;> exact hc
  | levelZero | rewashed => exact Nat.zero_le _
  | inspectionBlocked i => exact (Comp.capture_performed i).le.trans (Nat.zero_le _)
  | fillRevoked i | tagRefused i | halted i | overrunBlocked i | expired i => exact (Comp.capture_performed i).le.trans hc
  | fillEnded => exact endedFill_performed.le.trans hc
  | sampled hst hs =>
    rw [(Comp.caughtUp_parts _).2.1]
    cases hs with
    | planDone => exact (hp _ (by rw [hst]; rfl)).1
    | _ => exact hc
  | caughtUp => exact Comp.counted_performed.le.trans hc
  | reached => exact c.reached_parts.2.1.le.trans hc
  | _ => exact hc

/-- The conductivity that decides is limited to 20000 (R92, R94). -/
theorem State.deciding_le (hs : s.probesAgree) {p : Port} {reported : Nat} {r : Reading}
    (h : s.deciding p reported = some r) : r.conductivity ≤ 20000 := by
  unfold State.deciding State.settledReading at h
  split_ifs at h
  · split at h
    next x hx =>
      obtain ⟨n, hn, rfl⟩ := Option.map_eq_some_iff.1 h
      split_ifs at hn
      obtain ⟨y, hy, rfl⟩ := Option.map_eq_some_iff.1 hn
      exact (hs.2.2 p x y hx hy).2
    · cases h
  · cases h
    exact Nat.min_le_right ..

theorem Move.reading_le (h : Move A s k c c') (hs : s.probesAgree) (hc : ∀ x, c.reading = some x → x.conductivity ≤ 20000) :
    ∀ x, c'.reading = some x → x.conductivity ≤ 20000 := by
  have hnew : ∀ {p : Port} {reported : Nat} {r x : Reading}, s.deciding p reported = some r → some r = some x →
      x.conductivity ≤ 20000 := fun hr hx => Option.some.inj hx ▸ State.deciding_le hs hr
  intro x hx
  cases h with
  | forbidden hr | planned hr | levelZero _ hr => cases hr <;> exact hc x hx
  | passed _ _ _ _ _ _ _ hr => exact hnew hr hx
  | rewashed _ hr | levelZeroFailed _ hr => exact hnew hr hx
  | inspectionBlocked i _ hr => exact hnew hr ((Comp.capture_reading i).symm.trans hx)
  | fillRevoked | tagRefused | halted | overrunBlocked | expired => rw [Comp.capture_reading] at hx; exact hc x hx
  | fillEnded => exact hc x (endedFill_reading.symm.trans hx)
  | sampled => rw [(Comp.caughtUp_parts _).2.2] at hx; exact hc x hx
  | caughtUp => exact hc x (Comp.counted_reading.symm.trans hx)
  | reached => exact hc x (c.reached_parts.2.2.symm.trans hx)
  | _ => exact hc x hx

/-! ### The release and the loaded quantity (R6, R7, R97) -/

/-- The parts of a release record lie in their ranges (R6). -/
def Release.rangesAgree (r : Release) : Prop :=
  r.performed ≤ 6 ∧ r.conductivity ≤ 20000 ∧ (1 ≤ r.closureTag ∧ r.closureTag ≤ 999999) ∧
    (1 ≤ r.remaining ∧ r.remaining ≤ 172800)

theorem Comp.counted_release (hnone : c.nextExpiry = none)
    (hc : ∀ r, c.st.release = some r → r.rangesAgree) : ∀ r, c.counted.st.release = some r → r.rangesAgree := by
  obtain h | ⟨_, _, _, -, h⟩ | ⟨b, pl, r₀, hst, hr₀, h⟩ := c.counted_cases
  · rwa [h]
  · rw [h]; nofun
  · rw [h]
    intro r hr
    cases hr
    have htwo := (Comp.nextExpiry_released hst hr₀).1 hnone
    obtain ⟨hp, hcond, htag, -, hrem⟩ := hc r₀ (by rw [hst]; rfl)
    exact ⟨hp, hcond, htag, by show 1 ≤ r₀.remaining - 1; omega, by show r₀.remaining - 1 ≤ 172800; omega⟩

/-- The release a pass grants lies in its ranges (R30, R97). -/
theorem grant_rangesAgree (hs : s.plannerAgrees) {b : Booking} {pl : Plan} {r : Reading} {ctag : Nat}
    (hperf : c.performed ≤ 6) (hcond : r.conductivity ≤ 20000) (htag : 1 ≤ ctag ∧ ctag ≤ 999999) :
    (s.grant c b pl r ctag).rangesAgree := by
  obtain ⟨-, -, -, -, hlimits, -⟩ := hs
  obtain ⟨-, hlow, hhigh⟩ := hlimits b.cls
  refine ⟨hperf, hcond, htag, ?_⟩
  show 1 ≤ (s.classLimit b.cls).validityHours * 3600 ∧ (s.classLimit b.cls).validityHours * 3600 ≤ 172800
  omega

theorem Move.release_ranges (h : Move A s k c c') (hs : s.plannerAgrees) (hprobes : s.probesAgree) (hperf : c.performed ≤ 6)
    (hc : ∀ r, c.st.release = some r → r.rangesAgree) : ∀ r, c'.st.release = some r → r.rangesAgree := by
  have hkeep : ∀ {st : CompState} {r : Release}, c.st = st → st.release = some r → r.rangesAgree :=
    fun hst hr => hc _ (hst ▸ hr)
  intro r hr
  cases h with
  | keptReleased _ hst =>
    cases hr
    have hold := hkeep hst rfl
    exact hold
  | passed _ _ _ _ _ _ htag hdec => cases hr; exact grant_rangesAgree hs hperf (State.deciding_le hprobes hdec) htag
  | fillBegun _ _ _ hst =>
    cases hr
    have hold := hkeep hst rfl
    exact hold
  | volumeTaken _ hst | resumed hst => cases hr; exact hkeep hst rfl
  | halted i hst =>
    rw [Comp.capture_st] at hr
    cases hr
    exact hkeep hst rfl
  | acknowledged => exact hc r hr
  | sampled _ hsample =>
    have hnone : ∀ {st : CompState} {n : Nat}, st.release = none →
        ∀ r, (Comp.caughtUp { c with st := st, performed := n }).st.release = some r → r.rangesAgree := by
      intro st n hst
      have hd : ∀ r, ({ c with st := st, performed := n } : Comp).st.release = some r → r.rangesAgree :=
        fun r hr => absurd (hst.symm.trans hr) nofun
      unfold Comp.caughtUp
      split_ifs with hdue
      · exact Comp.counted_release hdue.2 hd
      · exact hd
    cases hsample <;> exact hnone rfl r hr
  | caughtUp hnone => exact Comp.counted_release hnone hc r hr
  | reached =>
    obtain ⟨hnone, h⟩ | ⟨-, h⟩ := c.reached_cases <;> rw [h] at hr
    · exact Comp.counted_release hnone hc r hr
    · exact hc r hr
  | fillEnded => rw [endedFill_st] at hr; cases hr
  | fillRevoked | inspectionBlocked | tagRefused | overrunBlocked | expired => rw [Comp.capture_st] at hr; cases hr
  | _ => cases hr

theorem Comp.counted_loadedPart (c : Comp) : c.counted.st.loadedPart = c.st.loadedPart := by
  obtain h | ⟨_, _, _, hst, h⟩ | ⟨_, _, _, hst, -, h⟩ := c.counted_cases <;> rw [h]
  · rw [hst]; rfl
  · rw [hst]; rfl

theorem Move.loaded_le (h : Move A s k c c') (hcounts : c.countsBounded)
    (hc : ∀ q, c.st.loadedPart = some q → q.quantity ≤ 65535) : ∀ q, c'.st.loadedPart = some q → q.quantity ≤ 65535 := by
  intro q hq
  cases h with
  | fillRevoked i hst =>
    rw [Comp.capture_st] at hq
    cases hq
    exact hcounts.2 _ _ (by rw [hst]; rfl)
  | fillEnded sent hst =>
    rw [endedFill_st] at hq
    cases hq
    exact deliveredCount_le (hcounts.2 _ _ (by rw [hst]; rfl))
  | acknowledged => exact hc q hq
  | sampled _ hsample =>
    obtain ⟨h, -⟩ | ⟨h, -⟩ := Comp.caughtUp_cases _ <;> rw [h] at hq
    · cases hsample <;> cases hq
    · change (Comp.counted _).st.loadedPart = some q at hq
      rw [Comp.counted_loadedPart] at hq
      cases hsample <;> cases hq
  | caughtUp => exact hc q (c.counted_loadedPart ▸ hq)
  | reached =>
    obtain ⟨-, h⟩ | ⟨-, h⟩ := c.reached_cases <;> rw [h] at hq
    · exact hc q (c.counted_loadedPart ▸ hq)
    · exact hc q hq
  | inspectionBlocked | tagRefused | halted | overrunBlocked | expired => rw [Comp.capture_st] at hq; cases hq
  | _ => cases hq

theorem Move.rangesAgree (h : Move A s k c c') (hs : s.plannerAgrees) (hprobes : s.probesAgree) (hr : s.refsListed c)
    (hcounts : c.countsBounded) (hc : c.rangesAgree) (hp : c.progressAgrees) : c'.rangesAgree := by
  obtain ⟨hcap, hperf, hplan, hreading, hrelease, hloaded⟩ := hc
  exact ⟨h.capacity ▸ hcap, h.performed_le hplan hperf, (h.timed hs hr hplan hp).1, h.reading_le hprobes hreading,
    h.release_ranges hs hprobes hperf hrelease, h.loaded_le hcounts hloaded⟩

/-! ### The fill limit (R116, R117, R118) -/

theorem fillLimit_range {capacity percent : Nat} (hc : 500 ≤ capacity ∧ capacity ≤ 20000)
    (hp : 80 ≤ percent ∧ percent ≤ 98) : 400 ≤ fillLimit capacity percent ∧ fillLimit capacity percent ≤ 19600 := by
  have hlow : 500 * 80 ≤ capacity * percent := Nat.mul_le_mul hc.1 hp.1
  have hhigh : capacity * percent ≤ 20000 * 98 := Nat.mul_le_mul hc.2 hp.2
  unfold fillLimit
  omega

/-- The fill percent of a listed product is in its range (R24). -/
theorem State.fillPercent_range (hs : s.plannerAgrees) {code : Nat} {cls : ClassNo} (h : s.listed code cls) (h0 : 1 ≤ code) :
    80 ≤ s.fillPercent code ∧ s.fillPercent code ≤ 98 := by
  rw [State.listed, if_neg (by omega)] at h
  obtain ⟨e, he, -⟩ := h
  unfold State.fillPercent
  rw [he]
  exact (hs.2.2.1 e (State.product_mem he).1).2.2.2

theorem reported_fillAgrees {f : Fill} {hs : HaltSet} (sent : Nat) (h : hs.limit = true ↔ f.limit ≤ f.delivered) :
    (reported f hs sent).2.limit = true ↔ (reported f hs sent).1.limit ≤ (reported f hs sent).1.delivered := by
  show (if f.limit ≤ deliveredCount f.delivered sent then _ else _ : HaltSet).limit = true ↔
    f.limit ≤ deliveredCount f.delivered sent
  have hkept : f.delivered ≤ deliveredCount f.delivered sent := Nat.le_max_left ..
  split_ifs with hle
  · simpa using hle
  · rw [h]
    omega

theorem Move.fillAgrees (h : Move A s k c c') (hs : s.plannerAgrees) (hr : s.refsListed c) (ht : c.targetsAgree)
    (hcap : 500 ≤ c.capacity ∧ c.capacity ≤ 20000) (hc : c.fillAgrees) : c'.fillAgrees := by
  intro f' hs' hf
  obtain ⟨b, pl, r, hst, hone, rfl, a, -, rfl⟩ | ⟨f, hs₀, hfill, ⟨sent, rfl, rfl⟩ | ⟨rfl, hlimit⟩⟩ := h.fill_cases hf
  · have hlisted := hr.2 b (by rw [hst]; rfl)
    rw [← (Comp.targetsAgree_released hst).1 ht] at hlisted
    have hrange := fillLimit_range hcap (State.fillPercent_range hs hlisted hone)
    refine ⟨hrange, nofun, fun hle => ?_⟩
    change fillLimit c.capacity (s.fillPercent r.target) ≤ 0 at hle
    omega
  · obtain ⟨hrange, hiff⟩ := hc f hs₀ hfill
    exact ⟨hrange, reported_fillAgrees sent hiff⟩
  · obtain ⟨hrange, hiff⟩ := hc f' hs₀ hfill
    exact ⟨hrange, hlimit ▸ hiff⟩

/-! ### The advance that is owed (R131) -/

/-- The states in which no timer runs. -/
def CompState.untimered : CompState → Prop
  | .washing _ _ _ .active => False
  | .released .. => False
  | _ => True

theorem Comp.owesAgree_of_untimered (h : c.st.untimered) : c.owesAgree := fun _ =>
  ⟨fun _ _ _ _ hst => absurd h (by rw [hst]; exact id), fun _ _ _ hst => absurd h (by rw [hst]; exact id)⟩

theorem Comp.owesAgree_of_not_due (h : c.advanceDue = false) : c.owesAgree := fun hdue => absurd (h.symm.trans hdue) nofun

/-- A record before which an expiry stands agrees with what it may owe. -/
theorem Comp.owesAgree_of_expiry (h : c.nextExpiry ≠ none) : c.owesAgree := by
  refine fun _ => ⟨fun b pl p st hst hget => ?_, fun b pl r hst => ?_⟩
  · have hcur : pl.current = st := by
      unfold Plan.current
      rw [hget]
    rw [Ne, Comp.nextExpiry_washing hst, hcur] at h
    omega
  · by_cases hr : r.frozen = false
    · rw [Ne, Comp.nextExpiry_released hst hr] at h
      omega
    · exact absurd (by simp [Comp.nextExpiry, hst, hr]) h

theorem Comp.owesAgree_counted (hnone : c.nextExpiry = none) (hp : c.planAgrees) (hprogress : c.progressAgrees)
    (hc : c.owesAgree) : c.counted.owesAgree := by
  obtain h | ⟨b, pl, p, hst, h⟩ | ⟨b, pl, r, hst, hr, h⟩ := c.counted_cases
  · rwa [h]
  · refine Comp.owesAgree_of_not_due ?_
    rw [Comp.counted_advanceDue]
    by_contra hdue
    obtain ⟨hpl, hl, -⟩ := Comp.running hst hp hprogress
    have := (hc (by simpa using hdue)).1 b pl p _ hst (hpl.current hl).1
    have := (Comp.nextExpiry_washing hst).1 hnone
    omega
  · refine Comp.owesAgree_of_not_due ?_
    rw [Comp.counted_advanceDue]
    by_contra hdue
    have := (hc (by simpa using hdue)).2 b pl r hst
    have := (Comp.nextExpiry_released hst hr).1 hnone
    omega

theorem Comp.owesAgree_caughtUp (h : c.nextExpiry = none → c.advanceDue = false → c.owesAgree) : c.caughtUp.owesAgree := by
  unfold Comp.caughtUp
  split_ifs with hdue
  · exact Comp.owesAgree_of_not_due rfl
  · by_cases hnone : c.nextExpiry = none
    · have hfalse : c.advanceDue = false := by simpa [hnone] using hdue
      exact h hnone hfalse
    · exact Comp.owesAgree_of_expiry hnone

theorem Move.owesAgree (h : Move A s k c c') (hp : c.planAgrees) (hprogress : c.progressAgrees) (hc : c.owesAgree) :
    c'.owesAgree := by
  cases h with
  | keptReleased _ hst =>
    refine fun hdue => ⟨nofun, fun b' pl' r' heq => ?_⟩
    cases heq
    have hold := (hc hdue).2 _ _ _ hst
    exact hold
  | started | passed => exact Comp.owesAgree_of_not_due rfl
  | acknowledged => exact hc
  | sampled => exact Comp.owesAgree_caughtUp fun _ hdue => Comp.owesAgree_of_not_due hdue
  | caughtUp => exact Comp.owesAgree_of_not_due rfl
  | reached =>
    obtain ⟨hnone, h⟩ | ⟨⟨e, he⟩, h⟩ := c.reached_cases <;> rw [h]
    · exact Comp.owesAgree_counted hnone hp hprogress hc
    · exact Comp.owesAgree_of_expiry (c := { c with advanceDue := true }) fun hnone => by cases he.symm.trans hnone
  | fillEnded => exact Comp.owesAgree_of_untimered (by rw [endedFill_st]; trivial)
  | fillRevoked | inspectionBlocked | tagRefused | halted | overrunBlocked | expired =>
    exact Comp.owesAgree_of_untimered (by rw [Comp.capture_st]; trivial)
  | _ => exact Comp.owesAgree_of_untimered trivial

/-! ### The bounds of a record together -/

/-- What `boundsAgree` says of one record. -/
def Comp.bounded (c : Comp) : Prop := c.rangesAgree ∧ c.progressAgrees ∧ c.fillAgrees ∧ c.owesAgree

theorem NewRecord.bounded (h : NewRecord s c) : c.bounded := by
  obtain ⟨tag, index, capacity, last, hcap, -⟩ := h
  exact ⟨⟨hcap, Nat.zero_le _, nofun, nofun, nofun, nofun⟩, Comp.progressAgrees_of_untimed trivial, nofun,
    Comp.owesAgree_of_untimered trivial⟩

theorem Move.bounded (h : Move A s k c c') (hs : s.plannerAgrees) (hprobes : s.probesAgree) (hr : s.refsListed c)
    (ht : c.targetsAgree) (hcounts : c.countsBounded) (hc : c.bounded) : c'.bounded := by
  obtain ⟨hranges, hprogress, hfill, howes⟩ := hc
  have hplan : c.planAgrees := hranges.2.2.1
  exact ⟨h.rangesAgree hs hprobes hr hcounts hranges hprogress, (h.timed hs hr hplan hprogress).2,
    h.fillAgrees hs hr ht hranges.1 hfill, h.owesAgree hplan hprogress howes⟩

theorem Change.boundsAgree (h : Change A s t) (hs : s.plannerAgrees) (hprobes : s.probesAgree) (hr : s.referencesHold)
    (ht : ∀ k c, s.compAt k = some c → c.targetsAgree) (hrecords : s.recordsAgree) (hc : s.boundsAgree) : t.boundsAgree :=
  h.records_induction (P := Comp.bounded) hc (fun _ _ _ hc => hc)
    (fun k c _ hk hc hm => hm.bounded hs hprobes (hr k c hk) (ht k c hk) (hrecords k c hk).2.2.2 hc) fun _ hc => hc.bounded

/-- Settles O53: every change keeps the tables and the records, and, where the tables they speak of agree, the bounds. -/
theorem stepKeepsTablesAndRecords : Obligations.StepKeepsTablesAndRecords := by
  intro s t htables hrecords h
  obtain ⟨htables', hrecords'⟩ := step_induction (P := fun s => s.tablesAgree ∧ s.recordsAgree) (fun _ _ hs => hs)
    (fun _ _ _ ⟨hu, hr⟩ hc => ⟨hc.tablesAgree hu, hc.recordsAgree hr⟩) ⟨htables, hrecords⟩ h
  refine ⟨htables', hrecords', fun hbounds hplanner hprobes hrefs htargets => ?_⟩
  have hall := step_induction
    (P := fun s => s.recordsAgree ∧ s.boundsAgree ∧ s.plannerAgrees ∧ s.probesAgree ∧ s.referencesHold ∧
      ∀ k c, s.compAt k = some c → c.targetsAgree) (fun _ _ hs => hs)
    (fun _ _ _ ⟨hr, hb, hp, hq, href, ht⟩ hc => ⟨hc.recordsAgree hr, hc.boundsAgree hp hq href ht hr hb,
      hc.plannerAgrees hp, hc.probesAgree hq, hc.referencesHold hp href ht, hc.targetsAgree ht⟩)
    ⟨hrecords, hbounds, hplanner, hprobes, hrefs, htargets⟩ h
  exact hall.2.1

end Sys2Proof.Machine
end

section
/-! PROOF. Every step leaves the latch of every bound output line at the demand of its function (R149). -/

namespace Sys2Proof.Machine

variable {s t : State} {A : Taking} {k : Slot} {c c' : Comp}

/-! ### Two states with the same demands -/

/-- Slot by slot, the two states call for the same demands (R84, R125, R139). -/
def State.drivesAs (s t : State) : Prop :=
  ∀ k, (∀ a, (t.compAt k).any (flowsOn a) = (s.compAt k).any (flowsOn a)) ∧
    (∀ p, (t.compAt k).any (activeFor p) = (s.compAt k).any (activeFor p)) ∧
    (t.compAt k).any (fun c => c.incident.isSome) = (s.compAt k).any fun c => c.incident.isSome

theorem State.any_records_congr {P : Comp → Bool} (h : ∀ k, (t.compAt k).any P = (s.compAt k).any P) :
    t.records.any P = s.records.any P := by
  have hiff : ∀ u : State, u.records.any P = true ↔ ∃ k, (u.compAt k).any P = true := by
    intro u
    simp only [State.any_records, Option.any_eq_true]
  rw [Bool.eq_iff_iff, hiff, hiff]
  simp only [h]

theorem State.drivesAs.demand (h : s.drivesAs t) (f : Func) : t.demand f = s.demand f := by
  cases f with
  | permit a => exact congrArg some (State.any_records_congr fun k => (h k).1 a)
  | washEnable p => exact congrArg some (State.any_records_congr fun k => (h k).2.1 p)
  | alarm => exact congrArg some (State.any_records_congr fun k => (h k).2.2)
  | ground | overfill | rinseProbe => rfl

theorem State.drivesAs_of_same (h : ∀ k, t.compAt k = s.compAt k) : s.drivesAs t := fun k => by
  rw [h]
  exact ⟨fun _ => rfl, fun _ => rfl, rfl⟩

theorem State.drivesAs_of_set (hc : s.compAt k = some c) (hd : c.drivesAs c')
    (ht : ∀ j, t.compAt j = if j = k then some c' else s.compAt j) : s.drivesAs t := fun j => by
  rw [ht]
  split_ifs with h
  · rw [h, hc]
    exact hd
  · exact ⟨fun _ => rfl, fun _ => rfl, rfl⟩

theorem Comp.drivesAs_reached (c : Comp) : c.drivesAs c.reached := by
  obtain ⟨-, h⟩ | ⟨-, h⟩ := c.reached_cases <;> rw [h]
  · exact c.drivesAs_counted
  · exact ⟨fun _ => rfl, fun _ => rfl, rfl⟩

/-- A new record calls for nothing (R15). -/
theorem registered_drivesAs (hs : s.tablesAgree) {tag : Nat} {cs : List (Nat × Nat)} {u : TankerSlot} {x : Tanker}
    (hcs : cs.length ≤ 6) (hfree : s.freeTanker = some u) : s.drivesAs (makeComps u tag 1 cs (s.setTanker u (some x))) := by
  intro k
  obtain ⟨v, j, rfl⟩ := exists_compSlot k
  rw [registered_compAt hcs]
  split_ifs with h
  · rw [h.1, hs.1 u (State.freeTanker_some hfree) j, List.getElem?_eq_getElem h.2]
    exact ⟨fun _ => rfl, fun _ => rfl, rfl⟩
  · exact ⟨fun _ => rfl, fun _ => rfl, rfl⟩

/-! ### The latches -/

theorem State.demand_driveLatches (u : State) (f : Func) : u.driveLatches.demand f = u.demand f := by cases f <;> rfl

/-- Driving the latches brings each to its demand (R149). -/
theorem State.latchesFollow_driveLatches (u : State) : u.driveLatches.latchesFollow := by
  intro l f d hf hd
  rw [State.demand_driveLatches] at hd
  obtain ⟨latch, hlatch⟩ := u.follow_eq (u.line l)
  rw [State.line_driveLatches, hlatch] at hf
  rw [State.line_driveLatches, State.follow]
  change (u.line l).func = some f at hf
  rw [hf]
  simp only [hd]

theorem State.latchesFollow_congr (hl : ∀ l, (t.line l).func = (s.line l).func ∧ (t.line l).latch = (s.line l).latch)
    (hd : s.drivesAs t) (hs : s.latchesFollow) : t.latchesFollow := by
  intro l f d hf hdemand
  rw [(hl l).2]
  exact hs l f d ((hl l).1.symm.trans hf) ((hd.demand f).symm.trans hdemand)

/-- A change of records alone that keeps the demands keeps the latches. -/
theorem State.latchesFollow_of_lines (hl : t.lines = s.lines) (hd : s.drivesAs t) (hs : s.latchesFollow) : t.latchesFollow :=
  State.latchesFollow_congr (fun l => by unfold State.line; rw [hl]; exact ⟨rfl, rfl⟩) hd hs

theorem Line.sample_latch (x : Line) (lv : Level) : (x.sample lv).1.latch = x.latch := by
  unfold Line.sample Line.plainSample Line.filterSample
  cases x.mode <;> dsimp only <;> split_ifs <;> rfl

theorem State.newLatch_of_demand {f : Func} {d : Bool} (h : s.demand f = some d) : s.newLatch (some f) = d := by
  simp [State.newLatch, h]

/-- One line replaced by one that is unbound or at its demand. -/
theorem State.latchesFollow_setLine {l : LineNo} {x : Line} (hx : ∀ f d, x.func = some f → s.demand f = some d → x.latch = d)
    (hs : s.latchesFollow) : (s.setLine l x).latchesFollow := by
  intro m f d hf hd
  have hd' : s.demand f = some d :=
    ((State.drivesAs_of_same (s := s) (t := s.setLine l x) fun _ => rfl).demand f).symm.trans hd
  rw [State.line_setLine] at hf ⊢
  split_ifs at hf ⊢ with hm
  · exact hx f d hf hd'
  · exact hs m f d hf hd'

theorem Change.latchesFollow (h : Change A s t) (hu : s.tablesAgree) (hs : s.latchesFollow) : t.latchesFollow := by
  cases h with
  | configured l cfg =>
    have hset : (s.setLine l (s.configured cfg)).latchesFollow :=
      State.latchesFollow_setLine (fun f d hf hd => by
        change cfg.func = some f at hf
        show s.newLatch cfg.func = d
        rw [hf]
        exact State.newLatch_of_demand hd) hs
    rw [State.configured_frame]
    exact State.latchesFollow_of_lines (s := s.setLine l (s.configured cfg)) rfl (State.drivesAs_of_same fun _ => rfl) hset
  | latchSet l latch hfree =>
    exact State.latchesFollow_setLine (fun f d hf => absurd (hfree.symm.trans hf) nofun) hs
  | sampled l lv =>
    exact State.latchesFollow_setLine
      (fun f d hf hd => (Line.sample_latch _ lv).trans (hs l f d ((Line.sample_func _ lv).symm.trans hf) hd)) hs
  | converted l raw =>
    refine State.latchesFollow_congr (fun m => ?_) (State.drivesAs_of_same fun _ => convertLine_compAt _) hs
    rw [convertLine_line]
    split_ifs with hm
    · rw [hm.1]; exact ⟨rfl, rfl⟩
    · exact ⟨rfl, rfl⟩
  | cleared => exact State.latchesFollow_driveLatches _
  | departed => exact State.latchesFollow_driveLatches _
  | driven => exact State.latchesFollow_driveLatches _
  | returned => exact State.latchesFollow_driveLatches _
  | registered tag cs u htag hcs hcap hnew hfree =>
    exact State.latchesFollow_of_lines (by rw [makeComps_frame]; rfl) (registered_drivesAs hu hcs.2 hfree) hs
  | handedOut p w hp hroom hw =>
    obtain ⟨e, -, hfind, hst, -⟩ := State.firstWork_some hw
    refine State.latchesFollow_of_lines (by rw [State.handOut_frame]) ?_ hs
    refine State.drivesAs_of_set (State.find_compAt hfind)
      (c' := w.found.comp.withSt (.washing w.booking w.plan p .between)) (Comp.drivesAs_of_idle ?_ ?_ rfl) State.handOut_compAt
    · rw [hst]; exact ⟨rfl, nofun⟩
    · exact ⟨rfl, nofun⟩
  | record k c c' hc hm hq hd =>
    exact State.latchesFollow_of_lines (s := s) rfl (State.drivesAs_of_set (s := s) hc hd fun _ => State.compAt_setComp ..) hs
  | left k c c' old hc hm hold hq _ hd =>
    exact State.latchesFollow_of_lines (s := s) rfl (State.drivesAs_of_set (s := s) hc hd fun _ => State.compAt_setComp ..) hs
  | joined k c c₀ b pl hc hm hq hd =>
    exact State.latchesFollow_of_lines (s := s) rfl
      (State.drivesAs_of_set (s := s) hc hd fun _ => State.compAt_enqueueTail ..) hs
  | moved k c b pl old hc hm hold hd =>
    exact State.latchesFollow_of_lines (s := s) rfl
      (State.drivesAs_of_set (s := s) hc hd fun _ => State.compAt_enqueueTail ..) hs
  | advanced =>
    refine State.latchesFollow_of_lines (s := s) rfl (fun k => ?_) hs
    rw [State.advanced_compAt]
    cases s.compAt k with
    | none => exact ⟨fun _ => rfl, fun _ => rfl, rfl⟩
    | some c => exact c.drivesAs_reached
  | reset =>
    intro l f d hf
    exact absurd ((congrArg Line.func (resetLines_get l)).symm.trans hf) nofun
  | _ => exact State.latchesFollow_of_lines (s := s) rfl (State.drivesAs_of_same fun _ => rfl) hs

/-- Settles O55: every change drives the latches or leaves the demands as they stand. -/
theorem stepKeepsLatchesFollowing : Obligations.StepKeepsLatchesFollowing := by
  intro s t hu hs h
  exact (step_induction (P := fun s => s.tablesAgree ∧ s.latchesFollow) (fun _ _ hs => hs)
    (fun _ _ _ ⟨hu, hs⟩ hc => ⟨hc.tablesAgree hu, hc.latchesFollow hu hs⟩) ⟨hu, hs⟩ h).2

end Sys2Proof.Machine
end

section
/-! PROOF. The wash queue: where an entry joins it (R48, R49), and every step keeps it at the QUEUED compartments, URGENT before
NORMAL (R47). -/

namespace Sys2Proof.Machine

variable {s t : State} {A : Taking} {k : Slot} {c c' : Comp}

/-! ### Where an entry joins (R48, R49) -/

/-- Where what passes a test stands before what does not, splitting the list is filtering it. -/
theorem takeWhile_eq_filter {α : Type} {p : α → Bool} : ∀ {l : List α}, l.Pairwise (fun e f => p f = true → p e = true) →
    l.takeWhile p = l.filter p ∧ l.dropWhile p = l.filter fun x => !p x
  | [], _ => ⟨rfl, rfl⟩
  | x :: xs, h => by
    obtain ⟨hx, hxs⟩ := List.pairwise_cons.1 h
    obtain ⟨htake, hdrop⟩ := takeWhile_eq_filter hxs
    by_cases hp : p x = true
    · simp [hp, htake, hdrop]
    · have hall : ∀ y ∈ xs, p y = false := fun y hy => by simpa using fun hpy => hp (hx y hy hpy)
      have hnone : xs.filter p = [] := List.filter_eq_nil_iff.2 fun y hy => by simp [hall y hy]
      have hevery : xs.filter (fun y => !p y) = xs := List.filter_eq_self.2 fun y hy => by simp [hall y hy]
      simp [hp, hnone, hevery]

/-- Settles O25: with URGENT before NORMAL, the walk over the URGENT group is the URGENT group. -/
theorem entriesJoinTheirGroup : Obligations.EntriesJoinTheirGroup := by
  intro s e hs
  obtain ⟨htake, hdrop⟩ := takeWhile_eq_filter hs
  simp [State.atTail, State.atHead, htake, hdrop]

/-! ### A queue in order -/

/-- The list holds the entries that stand under some priority, each once, and URGENT before NORMAL (R47). -/
def Ordered (l : List Entry) (R : Entry → Priority → Prop) : Prop :=
  l.Nodup ∧ (∀ e, e ∈ l ↔ ∃ pr, R e pr) ∧ l.Pairwise fun e f => R f .urgent → R e .urgent

theorem Ordered.congr {l : List Entry} {R R' : Entry → Priority → Prop} (h : Ordered l R) (hR : ∀ e pr, R' e pr ↔ R e pr) :
    Ordered l R' := by
  obtain rfl : R' = R := funext fun e => funext fun pr => propext (hR e pr)
  exact h

theorem Ordered.filter {l : List Entry} {R : Entry → Priority → Prop} (h : Ordered l R) (keep : Entry → Bool) :
    Ordered (l.filter keep) fun e pr => keep e = true ∧ R e pr := by
  obtain ⟨hnodup, hmem, hpairs⟩ := h
  refine ⟨hnodup.filter _, fun e => ?_, ?_⟩
  · rw [List.mem_filter, hmem]
    exact ⟨fun ⟨⟨pr, hr⟩, hk⟩ => ⟨pr, hk, hr⟩, fun ⟨pr, hk, hr⟩ => ⟨⟨pr, hr⟩, hk⟩⟩
  · refine (hpairs.filter keep).imp_of_mem fun {e f} he _ hef hf => ?_
    exact ⟨(List.mem_filter.1 he).2, hef hf.2⟩

/-- A new entry between two parts of the list: after everything URGENT, or before everything NORMAL, as its priority asks. -/
theorem Ordered.insert {xs ys : List Entry} {R : Entry → Priority → Prop} {e : Entry} {pr : Priority}
    (h : Ordered (xs ++ ys) R) (hnew : ∀ p, ¬ R e p) (hbefore : pr = .urgent → ∀ x ∈ xs, R x .urgent)
    (hafter : pr = .normal → ∀ y ∈ ys, ¬ R y .urgent) :
    Ordered (xs ++ e :: ys) fun x p => (x = e ∧ p = pr) ∨ R x p := by
  obtain ⟨hnodup, hmem, hpairs⟩ := h
  have he : e ∉ xs ++ ys := fun hin => by
    obtain ⟨p, hp⟩ := (hmem e).1 hin
    exact hnew p hp
  have hold : ∀ {x p}, x ∈ xs ++ ys → ((x = e ∧ p = pr) ∨ R x p) → R x p := by
    rintro x p hx (⟨rfl, -⟩ | hr)
    · exact absurd hx he
    · exact hr
  refine ⟨?_, fun x => ?_, ?_⟩
  · exact List.nodup_middle.2 (List.nodup_cons.2 ⟨he, hnodup⟩)
  · rw [List.perm_middle.mem_iff, List.mem_cons, hmem]
    exact ⟨fun h => h.elim (fun hx => ⟨pr, .inl ⟨hx, rfl⟩⟩) fun ⟨p, hp⟩ => ⟨p, .inr hp⟩,
      fun ⟨p, hp⟩ => hp.imp And.left fun hr => ⟨p, hr⟩⟩
  · obtain ⟨hxs, hys, hxy⟩ := List.pairwise_append.1 hpairs
    refine List.pairwise_append.2 ⟨?_, List.pairwise_cons.2 ⟨fun y hy hurgent => ?_, ?_⟩, fun x hx y hy hurgent => ?_⟩
    · exact hxs.imp_of_mem fun {a b} _ hb hab hr => .inr (hab (hold (List.mem_append_left _ hb) hr))
    · have hr := hold (List.mem_append_right _ hy) hurgent
      cases pr with
      | urgent => exact .inl ⟨rfl, rfl⟩
      | normal => exact absurd hr (hafter rfl y hy)
    · exact hys.imp_of_mem fun {a b} _ hb hab hr => .inr (hab (hold (List.mem_append_right _ hb) hr))
    · obtain rfl | hy := List.mem_cons.1 hy
      · obtain ⟨-, hpr⟩ | hr := hurgent
        · exact .inr (hbefore hpr.symm x hx)
        · exact absurd hr (hnew _)
      · exact .inr (hxy x hx y hy (hold (List.mem_append_right _ hy) hurgent))

/-! ### Which entries stand in the queue -/

/-- The compartment of the entry is QUEUED under the priority. -/
def State.queuedWith (s : State) (e : Entry) (pr : Priority) : Prop :=
  ∃ k c, s.compAt k = some c ∧ c.entry = e ∧ c.st.queuedAs = some pr

/-- With the tables in agreement, the address of a record finds that record (R2). -/
theorem State.find_of_compAt (hu : s.tablesAgree) (hc : s.compAt k = some c) :
    ∃ u x, s.tankerAt u = some x ∧ s.find c.tag c.index = some ⟨u, x, k, c⟩ := by
  obtain ⟨u, j, rfl⟩ := exists_compSlot k
  obtain ⟨hfree, hoccupied, -⟩ := id hu
  cases hx : s.tankerAt u with
  | none => exact absurd (hc.symm.trans (hfree u hx j)) nofun
  | some x =>
    obtain ⟨-, -, hslots⟩ := hoccupied u x hx
    by_cases hj : j.val < x.count
    · obtain ⟨d, hd, htag, hindex⟩ := (hslots j).1 hj
      obtain rfl : d = c := Option.some.inj (hd.symm.trans hc)
      refine ⟨u, x, hx, ?_⟩
      unfold State.find
      rw [htag, hindex, State.findTanker_of_tag hu hx rfl]
      simp only [hc]
      rw [if_pos (by omega)]
    · exact absurd (hc.symm.trans ((hslots j).2 (Nat.le_of_not_lt hj))) nofun

/-- No two records have the same address (R2). -/
theorem State.slot_of_entry (hu : s.tablesAgree) {j : Slot} {d : Comp} (hc : s.compAt k = some c) (hd : s.compAt j = some d)
    (he : c.entry = d.entry) : k = j := by
  obtain ⟨_, _, -, hfind⟩ := State.find_of_compAt hu hc
  obtain ⟨_, _, -, hfind'⟩ := State.find_of_compAt hu hd
  rw [show c.tag = d.tag from congrArg Entry.tag he, show c.index = d.index from congrArg Entry.index he] at hfind
  exact congrArg Found.slot (Option.some.inj (hfind.symm.trans hfind'))

theorem CompState.queuedAs_isSome {st : CompState} : (∃ pr, st.queuedAs = some pr) ↔ ∃ b pl, st = .queued b pl := by
  cases st <;> simp [CompState.queuedAs]

/-- The group of an entry in the queue is the priority its compartment stands under. -/
theorem State.isUrgent_iff (hu : s.tablesAgree) {e : Entry} {pr : Priority} (h : s.queuedWith e pr) :
    s.isUrgent e = true ↔ s.queuedWith e .urgent := by
  obtain ⟨k, c, hc, rfl, hpr⟩ := h
  obtain ⟨u, x, -, hfind⟩ := State.find_of_compAt hu hc
  obtain ⟨b, pl, hst⟩ := CompState.queuedAs_isSome.1 ⟨pr, hpr⟩
  have hgroup : s.group c.entry = some b.priority := by
    unfold State.group
    rw [show s.find c.entry.tag c.entry.index = _ from hfind]
    simp [hst, CompState.booking]
  have hqueued : s.queuedWith c.entry .urgent ↔ c.st.queuedAs = some .urgent := by
    refine ⟨fun ⟨j, d, hd, he, hr⟩ => ?_, fun hr => ⟨k, c, hc, rfl, hr⟩⟩
    obtain rfl := State.slot_of_entry hu hd hc he
    obtain rfl := Option.some.inj (hd.symm.trans hc)
    exact hr
  rw [hqueued, State.isUrgent, hgroup, hst]
  simp [CompState.queuedAs]

/-- Both invariants of the queue say that it is in order. -/
theorem State.ordered_iff (hu : s.tablesAgree) : s.queueAgrees ∧ s.urgentFirst ↔ Ordered s.queue s.queuedWith := by
  have hqueued : ∀ {k c}, s.compAt k = some c → ((∃ pr, s.queuedWith c.entry pr) ↔ ∃ b pl, c.st = .queued b pl) := by
    intro k c hc
    rw [← CompState.queuedAs_isSome]
    refine ⟨fun ⟨pr, j, d, hd, he, hr⟩ => ?_, fun ⟨pr, hr⟩ => ⟨pr, k, c, hc, rfl, hr⟩⟩
    obtain rfl := State.slot_of_entry hu hd hc he
    obtain rfl := Option.some.inj (hd.symm.trans hc)
    exact ⟨pr, hr⟩
  have hpairs : (∀ e ∈ s.queue, ∃ pr, s.queuedWith e pr) →
      (s.urgentFirst ↔ s.queue.Pairwise fun e f => s.queuedWith f .urgent → s.queuedWith e .urgent) := by
    intro hall
    refine List.Pairwise.iff_of_mem fun {e f} he hf => ?_
    obtain ⟨_, hpe⟩ := hall e he
    obtain ⟨_, hpf⟩ := hall f hf
    rw [State.isUrgent_iff hu hpe, State.isUrgent_iff hu hpf]
  constructor
  · rintro ⟨⟨hnodup, hiff, hrecord⟩, hfirst⟩
    have hmem : ∀ e, e ∈ s.queue ↔ ∃ pr, s.queuedWith e pr := by
      refine fun e => ⟨fun he => ?_, fun ⟨pr, k, c, hc, he, hr⟩ => ?_⟩
      · obtain ⟨k, c, hc, rfl⟩ := hrecord e he
        exact (hqueued hc).2 ((hiff k c hc).1 he)
      · exact he ▸ (hiff k c hc).2 (CompState.queuedAs_isSome.1 ⟨pr, hr⟩)
    exact ⟨hnodup, hmem, (hpairs fun e he => (hmem e).1 he).1 hfirst⟩
  · rintro ⟨hnodup, hmem, hfirst⟩
    refine ⟨⟨hnodup, fun k c hc => (hmem _).trans (hqueued hc), fun e he => ?_⟩, (hpairs fun e he => (hmem e).1 he).2 hfirst⟩
    obtain ⟨_, k, c, hc, he, -⟩ := (hmem e).1 he
    exact ⟨k, c, hc, he⟩

/-! ### What a change makes of the queue -/

/-- One record replaced: its own entry stands as the new record says, every other as before. -/
theorem State.queuedWith_of_set (hu : s.tablesAgree) (hc : s.compAt k = some c) (he : c'.entry = c.entry)
    (ht : ∀ j, t.compAt j = if j = k then some c' else s.compAt j) (e : Entry) (pr : Priority) :
    t.queuedWith e pr ↔ (e = c.entry ∧ c'.st.queuedAs = some pr) ∨ (e ≠ c.entry ∧ s.queuedWith e pr) := by
  constructor
  · rintro ⟨j, d, hd, rfl, hr⟩
    rw [ht] at hd
    split_ifs at hd with hj
    · cases hd
      exact .inl ⟨he, hr⟩
    · exact .inr ⟨fun heq => hj (State.slot_of_entry hu hd hc heq), j, d, hd, rfl, hr⟩
  · rintro (⟨rfl, hr⟩ | ⟨hne, j, d, hd, rfl, hr⟩)
    · exact ⟨k, c', by rw [ht, if_pos rfl], he, hr⟩
    · refine ⟨j, d, ?_, rfl, hr⟩
      rw [ht, if_neg, hd]
      rintro rfl
      exact hne (congrArg Comp.entry (Option.some.inj (hd.symm.trans hc)))

/-- A change of one record that keeps its place in the queue keeps the queue in order. -/
theorem Ordered.of_kept {l : List Entry} (h : Ordered l s.queuedWith) (hu : s.tablesAgree) (hc : s.compAt k = some c)
    (he : c'.entry = c.entry) (hq : c'.st.queuedAs = c.st.queuedAs)
    (ht : ∀ j, t.compAt j = if j = k then some c' else s.compAt j) : Ordered l t.queuedWith := by
  refine h.congr fun e pr => ?_
  rw [State.queuedWith_of_set hu hc he ht, hq]
  have hsame := State.queuedWith_of_set (t := s) hu hc rfl (fun j => by split_ifs with hj <;> simp [*]) e pr
  exact hsame.symm

/-- A compartment leaves the queue (R50). -/
theorem Ordered.of_left {l : List Entry} (h : Ordered l s.queuedWith) (hu : s.tablesAgree) (hc : s.compAt k = some c)
    (he : c'.entry = c.entry) (hq : c'.st.queuedAs = none)
    (ht : ∀ j, t.compAt j = if j = k then some c' else s.compAt j) :
    Ordered (l.filter fun x => x != c.entry) t.queuedWith := by
  refine (h.filter _).congr fun e pr => ?_
  rw [State.queuedWith_of_set hu hc he ht, hq]
  simp

/-- A compartment that was not QUEUED joins the queue at a place its priority allows (R48, R49). -/
theorem Ordered.of_joined {xs ys : List Entry} {pr : Priority} (h : Ordered (xs ++ ys) s.queuedWith) (hu : s.tablesAgree)
    (hc : s.compAt k = some c) (he : c'.entry = c.entry) (hold : c.st.queuedAs = none) (hq : c'.st.queuedAs = some pr)
    (ht : ∀ j, t.compAt j = if j = k then some c' else s.compAt j)
    (hbefore : pr = .urgent → ∀ x ∈ xs, s.queuedWith x .urgent)
    (hafter : pr = .normal → ∀ y ∈ ys, ¬ s.queuedWith y .urgent) :
    Ordered (xs ++ c.entry :: ys) t.queuedWith := by
  have hnew : ∀ p, ¬ s.queuedWith c.entry p := by
    rintro p ⟨j, d, hd, hentry, hr⟩
    obtain rfl := State.slot_of_entry hu hd hc hentry
    obtain rfl := Option.some.inj (hd.symm.trans hc)
    rw [hold] at hr
    cases hr
  refine (h.insert hnew hbefore hafter).congr fun e p => ?_
  rw [State.queuedWith_of_set hu hc he ht, hq, Option.some.injEq, eq_comm (a := pr)]
  exact or_congr_right ⟨And.right, fun hr => ⟨fun heq => hnew p (heq ▸ hr), hr⟩⟩

/-- The two parts of a queue in order: the URGENT entries and the NORMAL ones. -/
theorem Ordered.parts {l : List Entry} {R : Entry → Priority → Prop} (h : Ordered l R) (hu : s.tablesAgree)
    (hR : ∀ e ∈ l, ∀ pr, R e pr ↔ s.queuedWith e pr) :
    (∀ x ∈ l.takeWhile s.isUrgent, R x .urgent) ∧ ∀ y ∈ l.dropWhile s.isUrgent, ¬ R y .urgent := by
  obtain ⟨-, hmem, hpairs⟩ := h
  have hgroup : ∀ e ∈ l, (s.isUrgent e = true ↔ R e .urgent) := by
    intro e he
    obtain ⟨pr, hpr⟩ := (hmem e).1 he
    rw [State.isUrgent_iff hu ((hR e he pr).1 hpr), hR e he]
  obtain ⟨htake, hdrop⟩ := takeWhile_eq_filter (p := s.isUrgent)
    (hpairs.imp_of_mem fun {e f} he hf hef hurgent => (hgroup e he).2 (hef ((hgroup f hf).1 hurgent)))
  rw [htake, hdrop]
  refine ⟨fun x hx => ?_, fun y hy hurgent => ?_⟩
  · obtain ⟨hx, hurgent⟩ := List.mem_filter.1 hx
    exact (hgroup x hx).1 hurgent
  · obtain ⟨hy, hnot⟩ := List.mem_filter.1 hy
    simp [(hgroup y hy).2 hurgent] at hnot

/-- A compartment joins the tail of its group in a queue that is in order without it (R48). -/
theorem Ordered.atTail {v : State} {b : Booking} {pl : Plan} (h : Ordered s.queue v.queuedWith) (hu : s.tablesAgree)
    (hv : v.tablesAgree) (hR : ∀ e ∈ s.queue, ∀ pr, v.queuedWith e pr ↔ s.queuedWith e pr) (hc : v.compAt k = some c)
    (he : c'.entry = c.entry) (hold : c.st.queuedAs = none) (hvs : ∀ j, j ≠ k → v.compAt j = s.compAt j) :
    Ordered (s.enqueueTail k c' b pl).queue (s.enqueueTail k c' b pl).queuedWith := by
  obtain ⟨hurgent, -⟩ := h.parts hu hR
  have ht : ∀ j, (s.enqueueTail k c' b pl).compAt j = if j = k then some (c'.withSt (.queued b pl)) else v.compAt j := by
    intro j
    rw [State.compAt_enqueueTail]
    split_ifs with hj
    · rfl
    · exact (hvs j hj).symm
  show Ordered (s.atTail b.priority c'.entry) _
  rw [he]
  cases hpr : b.priority with
  | urgent =>
    refine Ordered.of_joined (c' := c'.withSt (.queued b pl)) (pr := .urgent) ?_ hv hc he hold (by rw [← hpr]; rfl) ht
      (fun _ => hurgent) nofun
    rwa [List.takeWhile_append_dropWhile]
  | normal =>
    refine Ordered.of_joined (c' := c'.withSt (.queued b pl)) (pr := .normal) (ys := []) ?_ hv hc he hold
      (by rw [← hpr]; rfl) ht nofun fun _ => nofun
    rwa [List.append_nil]

/-- A compartment joins the head of its group (R49). -/
theorem Ordered.atHead {b : Booking} {pl : Plan} (h : Ordered s.queue s.queuedWith) (hu : s.tablesAgree)
    (hc : s.compAt k = some c) (hold : c.st.queuedAs = none) :
    Ordered (s.enqueueHead k c b pl).queue (s.enqueueHead k c b pl).queuedWith := by
  obtain ⟨-, hnormal⟩ := h.parts hu fun _ _ _ => Iff.rfl
  have ht : ∀ j, (s.enqueueHead k c b pl).compAt j = if j = k then some (c.withSt (.queued b pl)) else s.compAt j :=
    fun j => State.compAt_enqueueHead ..
  show Ordered (s.atHead b.priority c.entry) _
  cases hpr : b.priority with
  | urgent =>
    exact Ordered.of_joined (c' := c.withSt (.queued b pl)) (pr := .urgent) (xs := []) h hu hc rfl hold
      (by rw [← hpr]; rfl) ht (fun _ => nofun) nofun
  | normal =>
    refine Ordered.of_joined (c' := c.withSt (.queued b pl)) (pr := .normal) ?_ hu hc rfl hold (by rw [← hpr]; rfl) ht
      nofun fun _ => hnormal
    rwa [List.takeWhile_append_dropWhile]

/-- A QUEUED compartment moves to the tail of another group (R40, R48). -/
theorem Ordered.moved {b : Booking} {pl : Plan} (h : Ordered s.queue s.queuedWith) (hu : s.tablesAgree)
    (hc : s.compAt k = some c) :
    Ordered ((s.dequeue c.entry).enqueueTail k c b pl).queue ((s.dequeue c.entry).enqueueTail k c b pl).queuedWith := by
  have hset : ∀ j, (s.setComp k (c.withSt .arrived)).compAt j = if j = k then some (c.withSt .arrived) else s.compAt j :=
    fun j => State.compAt_setComp ..
  have hleft := h.of_left (c' := c.withSt .arrived) hu hc rfl rfl hset
  have hv : (s.setComp k (c.withSt .arrived)).tablesAgree :=
    (State.sameOutline_of_set (s := s) (t := s.setComp k (c.withSt .arrived))
      (c' := c.withSt .arrived) hc rfl (fun _ => rfl) hset).tablesAgree hu
  refine Ordered.atTail (s := s.dequeue c.entry) (v := s.setComp k (c.withSt .arrived)) (c := c.withSt .arrived) hleft hu hv
    (fun e he pr => ?_) (State.compAt_setComp_self ..) rfl rfl fun j hj => (hset j).trans (if_neg hj)
  have hne : e ≠ c.entry := by simpa using (List.mem_filter.1 he).2
  rw [State.queuedWith_of_set (c' := c.withSt .arrived) hu hc rfl hset]
  exact ⟨fun h => h.elim (fun h => absurd h.1 hne) And.right, fun h => .inr ⟨hne, h⟩⟩

/-- Registering brings ARRIVED records into free slots: the queue stands (R15). -/
theorem Ordered.registered (h : Ordered s.queue s.queuedWith) (hu : s.tablesAgree) {tag : Nat} {cs : List (Nat × Nat)}
    {u : TankerSlot} {x : Tanker} (hcs : cs.length ≤ 6) (hfree : s.freeTanker = some u) :
    Ordered s.queue (makeComps u tag 1 cs (s.setTanker u (some x))).queuedWith := by
  refine h.congr fun e pr => ⟨fun ⟨k, c, hk, he, hr⟩ => ?_, fun ⟨k, c, hk, he, hr⟩ => ?_⟩
  · obtain ⟨v, j, rfl⟩ := exists_compSlot k
    rw [registered_compAt hcs] at hk
    split_ifs at hk
    · obtain ⟨_, -, rfl⟩ := Option.map_eq_some_iff.1 hk
      cases hr
    · exact ⟨_, c, hk, he, hr⟩
  · obtain ⟨v, j, rfl⟩ := exists_compSlot k
    refine ⟨compSlot v (j.val + 1), c, ?_, he, hr⟩
    rw [registered_compAt hcs, if_neg, hk]
    rintro ⟨rfl, -⟩
    exact absurd (hk.symm.trans (hu.1 v (State.freeTanker_some hfree) j)) nofun

/-- Departing takes the entries of the tanker's compartments, and those alone (R17). -/
theorem Ordered.departed (h : Ordered s.queue s.queuedWith) (hu : s.tablesAgree) {tag : Nat} {u : TankerSlot} {x : Tanker}
    (hx : s.findTanker tag = some (u, x)) :
    Ordered (s.queue.filter fun e => e.tag != tag) ((s.dequeueTanker tag).freeTankerSlot u).driveLatches.queuedWith := by
  obtain ⟨htanker, htag⟩ := State.findTanker_some hx
  have hcomp : ∀ v (j : Fin 6), ((s.dequeueTanker tag).freeTankerSlot u).driveLatches.compAt (compSlot v (j.val + 1)) =
      if v = u then none else s.compAt (compSlot v (j.val + 1)) := State.freeTankerSlot_compAt u
  have hslot : ∀ {v : TankerSlot} {j : Fin 6} {c : Comp}, s.compAt (compSlot v (j.val + 1)) = some c →
      (v = u ↔ c.tag = tag) := by
    intro v j c hc
    obtain ⟨w, y, hy, hfind⟩ := State.find_of_compAt hu hc
    obtain ⟨hfindt, ⟨h1, hcount⟩, hsl, -⟩ := State.find_some hfind
    have hytag := (State.findTanker_some hfindt).2
    obtain ⟨-, ⟨-, h6⟩, -⟩ := hu.2.1 w y hy
    change c.index ≤ y.count at hcount
    have hvw : v = w := (compSlot_inj (by omega) (by omega) h1 (by omega) hsl).1
    subst hvw
    refine ⟨fun hvu => ?_, fun hc' => hu.2.2 v u y x hy htanker (hytag.trans (hc'.trans htag.symm))⟩
    subst hvu
    obtain rfl := Option.some.inj (hy.symm.trans htanker)
    exact hytag.symm.trans htag
  refine (h.filter _).congr fun e pr => ⟨fun ⟨k, c, hk, he, hr⟩ => ?_, fun ⟨hkeep, k, c, hk, he, hr⟩ => ?_⟩
  · obtain ⟨v, j, rfl⟩ := exists_compSlot k
    rw [hcomp] at hk
    split_ifs at hk with hvu
    refine ⟨?_, _, c, hk, he, hr⟩
    have : c.tag ≠ tag := fun hc' => hvu ((hslot hk).2 hc')
    simpa [← he, Comp.entry] using this
  · obtain ⟨v, j, rfl⟩ := exists_compSlot k
    refine ⟨compSlot v (j.val + 1), c, ?_, he, hr⟩
    rw [hcomp, if_neg, hk]
    intro hvu
    have htag' := (hslot hk).1 hvu
    simp [← he, Comp.entry, htag'] at hkeep

theorem Comp.reached_queuedAs (c : Comp) : c.reached.st.queuedAs = c.st.queuedAs := by
  obtain ⟨-, h⟩ | ⟨-, h⟩ := c.reached_cases <;> rw [h]
  exact c.counted_queuedAs

/-- Every change keeps the queue in order. -/
theorem Change.ordered (h : Change A s t) (hu : s.tablesAgree) (hs : Ordered s.queue s.queuedWith) :
    Ordered t.queue t.queuedWith := by
  have hempty : ∀ u : State, u.queue = [] → (∀ k, u.compAt k = none) → Ordered u.queue u.queuedWith := by
    intro u hq hk
    rw [hq]
    refine ⟨.nil, fun e => ⟨nofun, fun ⟨_, k, c, hc, _⟩ => ?_⟩, .nil⟩
    exact absurd ((hk k).symm.trans hc) nofun
  cases h with
  | record k c c' hc hm hq => exact hs.of_kept hu hc hm.entry hq fun _ => State.compAt_setComp ..
  | driven k c c' hc hm hq => exact hs.of_kept hu hc hm.entry hq fun _ => State.compAt_setComp ..
  | left k c c' _ hc hm _ hq => exact hs.of_left hu hc hm.entry hq fun _ => State.compAt_setComp ..
  | joined k c c₀ b pl hc hm hq => exact hs.atTail hu hu (fun _ _ _ => Iff.rfl) hc hm.entry hq fun _ _ => rfl
  | returned k c b pl hc hm hq => exact hs.atHead hu hc hq
  | moved k c b pl old hc => exact hs.moved hu hc
  | handedOut p w hp hroom hw =>
    obtain ⟨e, -, hfind, hst, -⟩ := State.firstWork_some hw
    have hqueue : (s.handOut p (s.dockedTanker p).isSome w).queue = s.queue.filter fun x => x != w.found.comp.entry := by
      unfold State.handOut
      split_ifs <;> rfl
    rw [hqueue]
    exact hs.of_left (c' := w.found.comp.withSt (.washing w.booking w.plan p .between)) hu (State.find_compAt hfind) rfl rfl
      State.handOut_compAt
  | registered tag cs u htag hcs hcap hnew hfree =>
    have hqueue : ∀ x, (makeComps u tag 1 cs (s.setTanker u x)).queue = s.queue := fun x => by rw [makeComps_frame]; rfl
    rw [hqueue]
    exact hs.registered hu hcs.2 hfree
  | departed tag u x hx => exact hs.departed hu hx
  | cleared => exact hempty _ rfl clearYard_compAt
  | reset => exact hempty _ rfl resetComps_get
  | advanced =>
    refine hs.congr fun e pr => ⟨fun ⟨k, c, hk, he, hr⟩ => ?_, fun ⟨k, c, hk, he, hr⟩ => ?_⟩
    · rw [State.advanced_compAt] at hk
      obtain ⟨d, hd, rfl⟩ := Option.map_eq_some_iff.1 hk
      exact ⟨k, d, hd, Comp.reached_entry.symm.trans he, d.reached_queuedAs.symm.trans hr⟩
    · exact ⟨k, c.reached, by rw [State.advanced_compAt, hk]; rfl, Comp.reached_entry.trans he, c.reached_queuedAs.trans hr⟩
  | configured =>
    rw [State.configured_frame]
    exact hs
  | converted =>
    rw [State.converted_frame]
    exact hs
  | _ => exact hs

/-- Settles O54: every change keeps the tables in agreement and the queue in order. -/
theorem stepKeepsTheQueue : Obligations.StepKeepsTheQueue := by
  intro s t hu hq hfirst h
  obtain ⟨hu', hs'⟩ := step_induction (P := fun s => s.tablesAgree ∧ Ordered s.queue s.queuedWith) (fun _ _ hs => hs)
    (fun _ _ _ ⟨hu, hs⟩ hc => ⟨hc.tablesAgree hu, hc.ordered hu hs⟩) ⟨hu, (State.ordered_iff hu).1 ⟨hq, hfirst⟩⟩ h
  exact (State.ordered_iff hu').2 hs'

end Sys2Proof.Machine
end

section
/-! PROOF. Every step keeps every holder's role, every docking, at most one fill on an arm, and at most two compartments held by
a WASH port (R12, R52, R55, R107). -/

namespace Sys2Proof.Machine

variable {s t : State} {A : Taking} {k : Slot} {c c' : Comp} {p : Port}

/-! ### Who holds a compartment after a change -/

theorem stateCode_eq_three {st : CompState} : stateCode st = 3 ↔ ∃ b pl h ph, st = .washing b pl h ph := by
  cases st <;> simp [stateCode]

theorem Comp.counted_held (c : Comp) : c.counted.st.holder = c.st.holder ∧ stateCode c.counted.st = stateCode c.st := by
  obtain h | ⟨_, _, _, hst, h⟩ | ⟨_, _, _, hst, -, h⟩ := c.counted_cases <;> rw [h]
  · exact ⟨rfl, rfl⟩
  · rw [hst]; exact ⟨rfl, rfl⟩
  · rw [hst]; exact ⟨rfl, rfl⟩

theorem Comp.caughtUp_held (c : Comp) : c.caughtUp.st.holder = c.st.holder ∧ stateCode c.caughtUp.st = stateCode c.st := by
  obtain ⟨h, -⟩ | ⟨h, -⟩ := c.caughtUp_cases <;> rw [h]
  · exact ⟨rfl, rfl⟩
  · exact c.counted_held

theorem Comp.reached_held (c : Comp) : c.reached.st.holder = c.st.holder ∧ stateCode c.reached.st = stateCode c.st := by
  obtain ⟨-, h⟩ | ⟨-, h⟩ := c.reached_cases <;> rw [h]
  · exact c.counted_held
  · exact ⟨rfl, rfl⟩

/-- A holder after a move held the compartment before, or takes it up in the role its state asks for (R12). -/
theorem Move.held_cases (h : Move A s k c c') (hp : c'.st.holder = some p) :
    (c.st.holder = some p ∧ stateCode c'.st = stateCode c.st) ∨
    (s.role p = .inspect ∧ stateCode c'.st = 5) ∨ (s.role p = .fill ∧ stateCode c'.st = 7) ∨
    ∃ pr, c.st.queuedAs = some pr ∧ c'.st.queuedAs = none := by
  cases h with
  | handedOut hst => exact .inr (.inr (.inr ⟨_, by rw [hst]; rfl, rfl⟩))
  | inspected _ hrole => cases hp; exact .inr (.inl ⟨hrole, rfl⟩)
  | fillBegun _ _ _ _ hrole => cases hp; exact .inr (.inr (.inl ⟨hrole, rfl⟩))
  | started hst | volumeTaken _ hst | resumed hst | silenced hst | overran hst =>
    cases hp
    exact .inl ⟨by rw [hst]; rfl, by rw [hst]; rfl⟩
  | halted _ hst =>
    rw [Comp.capture_st] at hp ⊢
    cases hp
    exact .inl ⟨by rw [hst]; rfl, by rw [hst]; rfl⟩
  | acknowledged => exact .inl ⟨hp, rfl⟩
  | sampled hst hs =>
    obtain ⟨hheld, hcode⟩ := Comp.caughtUp_held { c with st := _, performed := _ }
    rw [hheld] at hp
    rw [hcode, hst]
    cases hs <;> cases hp <;> exact .inl ⟨rfl, rfl⟩
  | caughtUp => exact .inl ⟨c.counted_held.1 ▸ hp, c.counted_held.2⟩
  | reached => exact .inl ⟨c.reached_held.1 ▸ hp, c.reached_held.2⟩
  | fillEnded => rw [endedFill_st] at hp; cases hp
  | fillRevoked | inspectionBlocked | tagRefused | overrunBlocked | expired => rw [Comp.capture_st] at hp; cases hp
  | _ => cases hp

/-- A holder after a change held the compartment before, or takes it up: an INSPECT port to inspect it, a FILL port to fill
it, or a WASH port that is handed it. -/
theorem Change.held_cases (h : Change A s t) (hk : t.compAt k = some c') (hp : c'.st.holder = some p) :
    (∃ c, s.compAt k = some c ∧ c.st.holder = some p ∧ stateCode c'.st = stateCode c.st) ∨
    (s.role p = .inspect ∧ stateCode c'.st = 5) ∨ (s.role p = .fill ∧ stateCode c'.st = 7) ∨
    ∃ w, s.role p = .wash ∧ stateCode c'.st = 3 ∧ (s.heldBy p).length < 2 ∧
      s.firstWork p (s.dockedTanker p) = some w ∧ k = w.found.slot ∧ t = s.handOut p (s.dockedTanker p).isSome w := by
  cases h.effect with
  | same hsame => exact .inl ⟨c', hsame k ▸ hk, hp, rfl⟩
  | moved j c d hc hm hset _ hstay =>
    rw [hset] at hk
    split_ifs at hk with hkj
    · cases hk
      obtain ⟨hheld, hcode⟩ | hrole | hrole | ⟨pr, hq, hq'⟩ := hm.held_cases hp
      · exact .inl ⟨c, hkj ▸ hc, hheld, hcode⟩
      · exact .inr (.inl hrole)
      · exact .inr (.inr (.inl hrole))
      · obtain hnone | hstay := hstay
        · exact absurd (hnone.symm.trans hp) nofun
        · exact absurd (hq'.symm.trans (hstay.trans hq)) nofun
    · exact .inl ⟨c', hk, hp, rfl⟩
  | handedOut q w hrole hroom hw ht =>
    rw [ht, State.handOut_compAt] at hk
    split_ifs at hk with hkw
    · cases hk
      cases hp
      exact .inr (.inr (.inr ⟨w, hrole, rfl, hroom, hw, hkw, ht⟩))
    · exact .inl ⟨c', hk, hp, rfl⟩
  | undocked q u x _ _ ht => rw [ht] at hk; exact .inl ⟨c', hk, hp, rfl⟩
  | reached hreached =>
    rw [hreached, Option.map_eq_some_iff] at hk
    obtain ⟨c, hc, rfl⟩ := hk
    exact .inl ⟨c, hc, c.reached_held.1 ▸ hp, c.reached_held.2⟩
  | registered tag cs u htag hcs hcap hnew hfree hknown ht =>
    obtain ⟨v, j, rfl⟩ := exists_compSlot k
    rw [ht, registered_compAt hcs.2] at hk
    split_ifs at hk
    · obtain ⟨x, -, rfl⟩ := Option.map_eq_some_iff.1 hk
      cases hp
    · exact .inl ⟨c', hk, hp, rfl⟩
  | departed tag u x hx ht =>
    obtain ⟨v, j, rfl⟩ := exists_compSlot k
    rw [ht, State.driveLatches_compAt, State.freeTankerSlot_compAt] at hk
    split_ifs at hk
    exact .inl ⟨c', hk, hp, rfl⟩
  | emptied hnone => exact absurd ((hnone k).symm.trans hk) nofun

/-! ### Roles (R12) -/

/-- A port with work in hand keeps its role (R160). -/
theorem State.workInHand_eq_none {q : Port} (h : s.workInHand q = none) :
    s.heldBy q = [] ∧ s.dockedTanker q = none := by
  unfold State.workInHand at h
  split_ifs at h with hheld hdocked
  exact ⟨by simpa using hheld, by simpa using hdocked⟩

theorem State.role_congr {q : Port} {x : PortRec} (hx : x.role = (s.port q).role) (p : Port) :
    (s.setPort q x).role p = s.role p := by
  unfold State.role
  rw [State.port_setPort]
  split_ifs with hA hpq
  · rfl
  · rw [hx, hpq]
  · rfl

/-- The roles change only for a port without work in hand, and with a reset, which empties the yard. -/
theorem Change.role_cases (h : Change A s t) :
    (∀ p, t.role p = s.role p) ∨ (∃ q, s.heldBy q = [] ∧ (∀ p, p ≠ q → t.role p = s.role p) ∧ ∀ k, t.compAt k = s.compAt k) ∨
    ∀ k, t.compAt k = none := by
  cases h with
  | link => exact .inl (State.role_congr rfl)
  | limit => exact .inl (State.role_congr rfl)
  | accessMap => exact .inl (State.role_congr rfl)
  | role q role caps _ hwork =>
    refine .inr (.inl ⟨q, (State.workInHand_eq_none hwork).1, fun p hp => ?_, fun _ => rfl⟩)
    unfold State.role
    rw [State.port_setPort_ne _ _ hp]
  | configured => rw [State.configured_frame]; exact .inl fun _ => rfl
  | converted => rw [State.converted_frame]; exact .inl fun _ => rfl
  | registered => rw [makeComps_frame]; exact .inl fun _ => rfl
  | handedOut => rw [State.handOut_frame]; exact .inl fun _ => rfl
  | departed => rw [State.departed_frame]; exact .inl fun _ => rfl
  | reset => exact .inr (.inr resetComps_get)
  | _ => exact .inl fun _ => rfl

/-- A port that holds a compartment keeps its role. -/
theorem Change.role_of_held (h : Change A s t) (hk : t.compAt k = some c') (hp : c'.st.holder = some p)
    : t.role p = s.role p := by
  obtain hsame | ⟨q, hheld, hrole, hcomp⟩ | hnone := h.role_cases
  · exact hsame p
  · refine hrole p fun hpq => ?_
    rw [hcomp] at hk
    exact State.heldBy_eq_nil.1 hheld k c' hk (hpq ▸ hp)
  · exact absurd ((hnone k).symm.trans hk) nofun

theorem Change.holdersAgree (h : Change A s t) (hs : s.holdersAgree) : t.holdersAgree := by
  intro k c' p hk hp
  rw [h.role_of_held hk hp]
  obtain ⟨c, hc, hheld, hcode⟩ | ⟨hrole, hcode⟩ | ⟨hrole, hcode⟩ | ⟨w, hrole, hcode, -⟩ := h.held_cases hk hp
  · rw [hcode]
    exact hs k c p hc hheld
  · exact ⟨fun h3 => absurd (hcode.symm.trans h3) (by decide), fun _ => hrole,
      fun h7 => absurd (hcode.symm.trans h7) (by decide)⟩
  · exact ⟨fun h3 => absurd (hcode.symm.trans h3) (by decide), fun h5 => absurd (hcode.symm.trans h5) (by decide),
      fun _ => hrole⟩
  · exact ⟨fun _ => hrole, fun h5 => absurd (hcode.symm.trans h5) (by decide),
      fun h7 => absurd (hcode.symm.trans h7) (by decide)⟩

/-! ### Dockings (R52) -/

theorem State.dockingsAgree_iff : s.dockingsAgree ↔
    (∀ t u k l p, s.tankerAt t = some k → s.tankerAt u = some l → k.docked = some p → l.docked = some p → t = u) ∧
    ∀ u (j : Fin 6) c p, s.compAt (compSlot u (j.val + 1)) = some c → stateCode c.st = 3 → c.st.holder = some p →
      ∃ x, s.tankerAt u = some x ∧ x.docked = some p := by
  refine and_congr_right fun _ => ⟨fun h u j c p hc h3 hp => ?_, fun h u j c b pl p ph hc hst => ?_⟩
  · obtain ⟨b, pl, h', ph, hst⟩ := stateCode_eq_three.1 h3
    rw [hst] at hp
    cases hp
    exact h u j c b pl p ph hc hst
  · exact h u j c p hc (by rw [hst]; rfl) (by rw [hst]; rfl)

/-- A docked bay after a change was docked before, or is docked to the tanker of what it is handed (R53). -/
theorem Change.docked_cases (h : Change A s t) {u : TankerSlot} {x : Tanker} (hx : t.tankerAt u = some x)
    (hp : x.docked = some p) :
    (∃ y, s.tankerAt u = some y ∧ y.docked = some p) ∨
    s.dockedTanker p = none ∧ ∃ w, s.firstWork p none = some w ∧ u = w.found.tslot := by
  cases h.effect with
  | same _ hu => exact .inl ⟨x, hu u ▸ hx, hp⟩
  | moved _ _ _ _ _ _ hu => exact .inl ⟨x, hu u ▸ hx, hp⟩
  | handedOut q w hrole hroom hw ht =>
    rw [ht, State.handOut_tankerAt] at hx
    split_ifs at hx with hu
    · cases hx
      rw [show q = p from Option.some.inj hp] at hu hw
      have hnone : s.dockedTanker p = none := by simpa using hu.1
      exact .inr ⟨hnone, w, hnone ▸ hw, hu.2⟩
    · exact .inl ⟨x, hx, hp⟩
  | undocked q v y _ _ ht =>
    rw [ht, State.tankerAt_setTanker] at hx
    split_ifs at hx
    · cases hx
      cases hp
    · exact .inl ⟨x, hx, hp⟩
  | reached _ hu => exact .inl ⟨x, hu u ▸ hx, hp⟩
  | registered tag cs v _ _ _ _ _ _ ht =>
    rw [ht, registered_tankerAt] at hx
    split_ifs at hx
    · cases hx
      cases hp
    · exact .inl ⟨x, hx, hp⟩
  | departed tag v y _ ht =>
    rw [ht] at hx
    change ((s.dequeueTanker tag).freeTankerSlot v).tankerAt u = some x at hx
    rw [State.freeTankerSlot_tankerAt] at hx
    split_ifs at hx
    exact .inl ⟨x, hx, hp⟩
  | emptied _ hnone => exact absurd ((hnone u).symm.trans hx) nofun

/-- A tanker stays docked to a bay that still holds one of its compartments (R54). -/
theorem Change.docked_of_held (h : Change A s t) {u : TankerSlot} {j : Fin 6} {y : Tanker} (hy : s.tankerAt u = some y)
    (hdock : y.docked = some p) (hc : s.compAt (compSlot u (j.val + 1)) = some c) (hp : c.st.holder = some p)
    (hc' : t.compAt (compSlot u (j.val + 1)) = some c') : ∃ x, t.tankerAt u = some x ∧ x.docked = some p := by
  cases h.effect with
  | same _ hu => exact ⟨y, (hu u).trans hy, hdock⟩
  | moved _ _ _ _ _ _ hu => exact ⟨y, (hu u).trans hy, hdock⟩
  | handedOut q w hrole hroom hw ht =>
    rw [ht, State.handOut_tankerAt]
    split_ifs with hu
    · obtain ⟨e, -, hfind, -, hsuits⟩ := State.firstWork_some hw
      have hnone : s.dockedTanker q = none := by simpa using hu.1
      rw [hnone] at hsuits
      have hfound := State.find_tankerAt hfind
      rw [← hu.2, hy] at hfound
      cases hfound
      exact absurd (hdock.symm.trans hsuits) nofun
    · exact ⟨y, hy, hdock⟩
  | undocked q v x hx hheld ht =>
    rw [ht, State.tankerAt_setTanker]
    split_ifs with hu
    · obtain ⟨hxv, hxq⟩ := State.dockedTanker_some hx
      rw [← hu, hy] at hxv
      cases hxv
      cases hdock.symm.trans hxq
      exact absurd hp (State.heldBy_eq_nil.1 hheld _ c hc)
    · exact ⟨y, hy, hdock⟩
  | reached _ hu => exact ⟨y, (hu u).trans hy, hdock⟩
  | registered tag cs v _ _ _ _ hfree _ ht =>
    rw [ht, registered_tankerAt]
    split_ifs with hu
    · rw [hu] at hy
      exact absurd ((State.freeTanker_some hfree).symm.trans hy) nofun
    · exact ⟨y, hy, hdock⟩
  | departed tag v x _ ht =>
    rw [ht] at hc' ⊢
    rw [State.driveLatches_compAt, State.freeTankerSlot_compAt] at hc'
    split_ifs at hc' with hu
    exact ⟨y, ((State.freeTankerSlot_tankerAt v u).trans (if_neg hu)).trans hy, hdock⟩
  | emptied hnone => exact absurd ((hnone _).symm.trans hc') nofun

/-- The slot of what a bay is handed belongs to the tanker found. -/
theorem State.tslot_of_firstWork (hu : s.tablesAgree) {dock : Option (TankerSlot × Tanker)} {w : Work}
    (hw : s.firstWork p dock = some w) {u : TankerSlot} {j : Fin 6} (h : compSlot u (j.val + 1) = w.found.slot) :
    u = w.found.tslot := by
  obtain ⟨e, -, hfind, -⟩ := State.firstWork_some hw
  obtain ⟨-, ⟨h1, hcount⟩, hslot, -⟩ := State.find_some hfind
  obtain ⟨-, ⟨-, h6⟩, -⟩ := hu.2.1 _ _ (State.find_tankerAt hfind)
  exact (compSlot_inj (by omega) (by omega) h1 (by omega) (h.trans hslot)).1

/-- The bay a compartment is handed to is docked to its tanker (R53). -/
theorem handOut_docked {w : Work} (hw : s.firstWork p (s.dockedTanker p) = some w) :
    ∃ x, (s.handOut p (s.dockedTanker p).isSome w).tankerAt w.found.tslot = some x ∧ x.docked = some p := by
  rw [State.handOut_tankerAt]
  obtain ⟨e, -, -, -, hsuits⟩ := State.firstWork_some hw
  cases hdock : s.dockedTanker p with
  | none => exact ⟨_, if_pos ⟨rfl, rfl⟩, rfl⟩
  | some x =>
    obtain ⟨v, y⟩ := x
    rw [hdock] at hsuits
    obtain ⟨hy, hyp⟩ := State.dockedTanker_some hdock
    refine ⟨y, ?_, hyp⟩
    rw [if_neg fun h => Bool.noConfusion h.1]
    exact (congrArg s.tankerAt hsuits).trans hy

theorem Change.dockingsAgree (h : Change A s t) (hu : s.tablesAgree) (hs : s.dockingsAgree) : t.dockingsAgree := by
  rw [State.dockingsAgree_iff] at *
  obtain ⟨hone, hwash⟩ := hs
  refine ⟨fun a b x y p hx hy hxp hyp => ?_, fun u j c' p hk h3 hp => ?_⟩
  · obtain ⟨x', hx', hxp'⟩ | ⟨hnone, w, hw, ha⟩ := h.docked_cases hx hxp
    · obtain ⟨y', hy', hyp'⟩ | ⟨hnone, -⟩ := h.docked_cases hy hyp
      · exact hone a b x' y' p hx' hy' hxp' hyp'
      · exact absurd hxp' (State.dockedTanker_eq_none.1 hnone a x' hx')
    · obtain ⟨y', hy', hyp'⟩ | ⟨-, w', hw', hb⟩ := h.docked_cases hy hyp
      · exact absurd hyp' (State.dockedTanker_eq_none.1 hnone b y' hy')
      · rw [ha, hb, Option.some.inj (hw.symm.trans hw')]
  · obtain ⟨c, hc, hheld, hcode⟩ | ⟨-, hcode⟩ | ⟨-, hcode⟩ | ⟨w, -, -, -, hw, hslot, ht⟩ := h.held_cases hk hp
    · obtain ⟨y, hy, hdock⟩ := hwash u j c p hc (hcode ▸ h3) hheld
      exact h.docked_of_held hy hdock hc hheld hk
    · exact absurd (hcode.symm.trans h3) (by decide)
    · exact absurd (hcode.symm.trans h3) (by decide)
    · rw [State.tslot_of_firstWork hu hw hslot, ht]
      exact handOut_docked hw

/-! ### One fill on an arm (R107) -/

theorem Comp.reached_fill (c : Comp) : c.reached.st.fill = c.st.fill := by
  obtain ⟨-, h⟩ | ⟨-, h⟩ := c.reached_cases <;> rw [h]
  exact c.counted_fill

/-- A fill after a change was on its arm before, or begins on a free arm, and then no other record changes. -/
theorem Change.fill_cases (h : Change A s t) (hk : t.compAt k = some c') {f : Fill} {x : HaltSet}
    (hf : c'.st.fill = some (f, x)) :
    (∃ c g y, s.compAt k = some c ∧ c.st.fill = some (g, y) ∧ g.arm = f.arm) ∨
    s.fillOn f.arm = none ∧ ∀ j, j ≠ k → t.compAt j = s.compAt j := by
  have hsame : s.compAt k = some c' → ∃ c g y, s.compAt k = some c ∧ c.st.fill = some (g, y) ∧ g.arm = f.arm :=
    fun hc => ⟨c', f, x, hc, hf, rfl⟩
  cases h.effect with
  | same hsk => exact .inl (hsame (hsk k ▸ hk))
  | moved j c d hc hm hset =>
    rw [hset] at hk
    split_ifs at hk with hkj
    · cases hk
      obtain ⟨_, _, _, -, -, -, a, hfree, rfl⟩ | ⟨g, y, hg, ⟨sent, rfl, -⟩ | ⟨rfl, -⟩⟩ := hm.fill_cases hf
      · exact .inr ⟨hfree, fun i hi => (hset i).trans (if_neg (hkj ▸ hi))⟩
      · exact .inl ⟨c, g, y, hkj ▸ hc, hg, rfl⟩
      · exact .inl ⟨c, f, y, hkj ▸ hc, hg, rfl⟩
    · exact .inl (hsame hk)
  | handedOut q w _ _ _ ht =>
    rw [ht, State.handOut_compAt] at hk
    split_ifs at hk
    · cases hk
      cases hf
    · exact .inl (hsame hk)
  | undocked q u y _ _ ht => rw [ht] at hk; exact .inl (hsame hk)
  | reached hreached =>
    rw [hreached, Option.map_eq_some_iff] at hk
    obtain ⟨c, hc, rfl⟩ := hk
    exact .inl ⟨c, f, x, hc, c.reached_fill ▸ hf, rfl⟩
  | registered tag cs u htag hcs hcap hnew hfree hknown ht =>
    obtain ⟨v, j, rfl⟩ := exists_compSlot k
    rw [ht, registered_compAt hcs.2] at hk
    split_ifs at hk
    · obtain ⟨y, -, rfl⟩ := Option.map_eq_some_iff.1 hk
      cases hf
    · exact .inl (hsame hk)
  | departed tag u y hx ht =>
    obtain ⟨v, j, rfl⟩ := exists_compSlot k
    rw [ht, State.driveLatches_compAt, State.freeTankerSlot_compAt] at hk
    split_ifs at hk
    exact .inl (hsame hk)
  | emptied hnone => exact absurd ((hnone k).symm.trans hk) nofun

theorem Change.oneFillEach (h : Change A s t) (hs : s.oneFillEach) : t.oneFillEach := by
  have hfree : ∀ {j k : Slot} {c d : Comp} {f g : Fill} {x y : HaltSet}, t.compAt j = some c → c.st.fill = some (f, x) →
      (s.fillOn f.arm = none ∧ ∀ i, i ≠ j → t.compAt i = s.compAt i) → t.compAt k = some d → d.st.fill = some (g, y) →
      f.arm = g.arm → j = k := by
    rintro j k c d f g x y - - ⟨hnone, hother⟩ hd hg harm
    by_contra hjk
    rw [hother k (Ne.symm hjk)] at hd
    exact State.fillOn_eq_none.1 hnone k d g y hd hg harm.symm
  intro j k c d f g x y hc hd hf hg harm
  obtain ⟨c₀, f₀, x₀, hc₀, hf₀, ha⟩ | hnew := h.fill_cases hc hf
  · obtain ⟨d₀, g₀, y₀, hd₀, hg₀, hb⟩ | hnew := h.fill_cases hd hg
    · exact hs j k c₀ d₀ f₀ g₀ x₀ y₀ hc₀ hd₀ hf₀ hg₀ (ha.trans (harm.trans hb.symm))
    · exact (hfree hd hg hnew hc hf harm.symm).symm
  · exact hfree hc hf hnew hd hg harm

/-! ### At most two compartments to a bay (R55) -/

theorem vector_toList {α : Type} {n : Nat} (v : Vector α n) : v.toList = (List.finRange n).map fun i => v[i] :=
  List.ext_getElem (by simp) fun i h1 h2 => by simp

/-- The records that pass a test, counted over the slots. -/
theorem State.countP_records (s : State) (P : Comp → Bool) :
    s.records.countP P = (List.finRange 192).countP fun k => (s.compAt k).any P := by
  rw [State.records, vector_toList, List.countP_filterMap, List.countP_map]
  refine List.countP_congr fun k _ => ?_
  show ((s.compAt k).map P).getD false = true ↔ _
  cases s.compAt k <;> rfl

/-- The compartments a port holds, counted over the slots. -/
theorem State.length_heldBy (s : State) (p : Port) :
    (s.heldBy p).length = (List.finRange 192).countP fun k => (s.compAt k).any fun c => c.st.holder == some p := by
  rw [State.heldBy, ← List.countP_eq_length_filter, State.countP_records]

/-- A test that one more element at most passes counts one more at most. -/
theorem countP_le_succ {α : Type} [DecidableEq α] {l : List α} (hl : l.Nodup) {P Q : α → Bool} {a : α}
    (h : ∀ x, P x = true → Q x = true ∨ x = a) : l.countP P ≤ l.countP Q + 1 := by
  have hsplit : ∀ l : List α, l.countP P ≤ l.countP Q + l.count a := by
    intro l
    induction l with
    | nil => simp
    | cons x xs ih =>
      rw [List.countP_cons, List.countP_cons, List.count_cons]
      by_cases hP : P x = true
      · obtain hQ | rfl := h x hP
        · simp only [hP, hQ, if_true]; omega
        · simp only [hP, if_true, beq_self_eq_true]; omega
      · rw [if_neg hP]; omega
  have := hsplit l
  have := List.nodup_iff_count_le_one.1 hl a
  omega

theorem Change.baysHoldTwo (h : Change A s t) (hs : s.baysHoldTwo) : t.baysHoldTwo := by
  intro p hp
  by_cases hnone : t.heldBy p = []
  · rw [hnone]
    exact Nat.zero_le _
  obtain ⟨d, hd⟩ := List.exists_mem_of_ne_nil _ hnone
  obtain ⟨⟨j, hj⟩, hdp⟩ := State.mem_heldBy.1 hd
  have hwash : s.role p = .wash := (h.role_of_held hj hdp).symm.trans hp
  have hkept : ∀ k, ((t.compAt k).any fun c => c.st.holder == some p) = true →
      ((s.compAt k).any fun c => c.st.holder == some p) = true ∨
      ∃ w, k = w.found.slot ∧ (s.heldBy p).length < 2 ∧ s.firstWork p (s.dockedTanker p) = some w := by
    intro k hk
    obtain ⟨c', hc', hheld⟩ := (Option.any_eq_true _ _).1 hk
    obtain ⟨c, hc, hheld, -⟩ | ⟨hrole, -⟩ | ⟨hrole, -⟩ | ⟨w, -, -, hroom, hw, hslot, -⟩ :=
      h.held_cases hc' (by simpa using hheld)
    · exact .inl (by simp [hc, hheld])
    · exact absurd (hwash.symm.trans hrole) nofun
    · exact absurd (hwash.symm.trans hrole) nofun
    · exact .inr ⟨w, hslot, hroom, hw⟩
  by_cases hhand : ∃ w, (s.heldBy p).length < 2 ∧ s.firstWork p (s.dockedTanker p) = some w
  · obtain ⟨w, hroom, hw⟩ := hhand
    have hle := countP_le_succ (List.nodup_finRange 192) (a := w.found.slot) fun k hk =>
      (hkept k hk).imp_right fun ⟨w', hslot, _, hw'⟩ => by rw [hslot, Option.some.inj (hw.symm.trans hw')]
    rw [← State.length_heldBy, ← State.length_heldBy] at hle
    omega
  · have hle := List.countP_mono_left (l := List.finRange 192) fun k _ hk =>
      (hkept k hk).resolve_right fun ⟨w, _, hroom, hw⟩ => hhand ⟨w, hroom, hw⟩
    rw [← State.length_heldBy, ← State.length_heldBy] at hle
    exact hle.trans (hs p hwash)

/-- Settles O57: every change keeps the holders' roles, the dockings, the fills on the arms and the bays' two compartments. -/
theorem stepKeepsHoldsAndDockings : Obligations.StepKeepsHoldsAndDockings := by
  intro s t hu hholders hdockings hfills h
  obtain ⟨-, hholders', hdockings', hfills'⟩ := step_induction
    (P := fun s => s.tablesAgree ∧ s.holdersAgree ∧ s.dockingsAgree ∧ s.oneFillEach) (fun _ _ hs => hs)
    (fun _ _ _ ⟨hu, hh, hd, hf⟩ hc => ⟨hc.tablesAgree hu, hc.holdersAgree hh, hc.dockingsAgree hu hd, hc.oneFillEach hf⟩)
    ⟨hu, hholders, hdockings, hfills⟩ h
  exact ⟨hholders', hdockings', hfills', fun hbays =>
    step_induction (P := State.baysHoldTwo) (fun _ _ hs => hs) (fun _ _ _ hs hc => hc.baysHoldTwo hs) hbays h⟩

end Sys2Proof.Machine
end

section
/-! PROOF. What a yard may rely on: nothing but a FILL BEGIN begins a fill (R109 to R115, R118), and nothing but a passed INSPECT
RESULT releases (R92, R93, R96, R97, R102). -/

namespace Sys2Proof.Machine

variable {s t u : State} {A : Taking} {k : Slot} {c c' d : Comp} {p : Port}

/-! ### Fills -/

/-- The record in the slot is FILLING under the same booking, plan, holder and release, on the same arm with the same product
and limit, and with no more litres. -/
def State.fills (s : State) (k : Slot) (b : Booking) (pl : Plan) (h : Port) (r : Release) (f : Fill) : Prop :=
  ∃ c g gs, s.compAt k = some c ∧ c.st = .filling b pl h r g gs ∧ g.arm = f.arm ∧ g.product = f.product ∧
    g.limit = f.limit ∧ g.delivered ≤ f.delivered

/-- A fill that begins in the slot, with everything FILL BEGIN checks (R110 to R115). -/
structure Begun (A : Taking) (s : State) (k : Slot) (b : Booking) (pl : Plan) (h : Port) (r : Release) (f : Fill)
    (hs : HaltSet) (old : Release) : Prop where
  was : ∃ c, s.compAt k = some c ∧ c.st = .released b pl old
  frozen : r = { old with frozen := true }
  asked : ∃ tag index found, s.names tag index found ∧ found.slot = k ∧
    A .fillBegin h (addressBytes tag index ++ argBytes [(1, f.arm.val + 1), (2, f.product), (3, old.closureTag)])
  product : f.product = old.target
  empty : f.delivered = 0
  flowing : hs = noHalts
  role : s.role h = .fill
  equipped : s.notEquipped f.arm h = none
  free : s.fillOn f.arm = none
  bonded : s.boundLevel (.ground f.arm) = some .active
  dry : s.notDry f.arm = false

theorem Comp.counted_st_filling {b : Booking} {pl : Plan} {h : Port} {r : Release} {f : Fill} {hs : HaltSet} (c : Comp) :
    c.counted.st = .filling b pl h r f hs ↔ c.st = .filling b pl h r f hs := by
  obtain hc | ⟨_, _, _, hst, hc⟩ | ⟨_, _, _, hst, -, hc⟩ := c.counted_cases <;> rw [hc]
  · simp [hst]
  · simp [hst]

/-- A record FILLING after a move was FILLING before it, or begins its fill. -/
theorem Move.filling_cases (h : Move A s k c c') (hc : s.compAt k = some c) {b : Booking} {pl : Plan} {q : Port} {r : Release}
    {f : Fill} {hs : HaltSet} (hst' : c'.st = .filling b pl q r f hs) :
    s.fills k b pl q r f ∨ ∃ old, Begun A s k b pl q r f hs old := by
  have hkept : c.st = .filling b pl q r f hs → s.fills k b pl q r f := fun hst => ⟨c, f, hs, hc, hst, rfl, rfl, rfl, le_rfl⟩
  cases h with
  | fillBegun hA hf hslot hst hp htarget hequipped hfree hground hdry =>
    cases hst'
    exact .inr ⟨_, ⟨c, hc, hst⟩, rfl, ⟨_, _, _, hf, hslot, hA⟩, rfl, rfl, rfl, hp, hequipped, hfree, hground, hdry⟩
  | volumeTaken sent hst =>
    cases hst'
    exact .inl ⟨c, _, _, hc, hst, rfl, rfl, rfl, Nat.le_max_left ..⟩
  | resumed hst => cases hst'; exact .inl ⟨c, _, _, hc, hst, rfl, rfl, rfl, le_rfl⟩
  | halted i hst =>
    rw [Comp.capture_st] at hst'
    cases hst'
    exact .inl ⟨c, _, _, hc, hst, rfl, rfl, rfl, le_rfl⟩
  | acknowledged => exact .inl (hkept hst')
  | sampled _ hsample =>
    obtain ⟨h, -⟩ | ⟨h, -⟩ := Comp.caughtUp_cases _ <;> rw [h] at hst'
    · cases hsample <;> cases hst'
    · have hst := (Comp.counted_st_filling _).1 hst'
      cases hsample <;> cases hst
  | caughtUp => exact .inl (hkept ((Comp.counted_st_filling c).1 hst'))
  | reached =>
    obtain ⟨-, h⟩ | ⟨-, h⟩ := c.reached_cases <;> rw [h] at hst'
    · exact .inl (hkept ((Comp.counted_st_filling c).1 hst'))
    · exact .inl (hkept hst')
  | fillEnded => rw [endedFill_st] at hst'; cases hst'
  | fillRevoked | inspectionBlocked | tagRefused | overrunBlocked | expired => rw [Comp.capture_st] at hst'; cases hst'
  | _ => cases hst'

theorem Change.filling_cases (h : Change A s t) {b : Booking} {pl : Plan} {q : Port} {r : Release} {f : Fill} {hs : HaltSet}
    (hk : t.compAt k = some d) (hst : d.st = .filling b pl q r f hs) :
    s.fills k b pl q r f ∨ ∃ old, Begun A s k b pl q r f hs old := by
  obtain hc | ⟨c, hc, hm⟩ | hnew := h.compAt_cases hk
  · exact .inl ⟨d, f, hs, hc, hst, rfl, rfl, rfl, le_rfl⟩
  · exact hm.filling_cases hc hst
  · cases hnew
    cases hst

theorem State.fills_trans {b : Booking} {pl : Plan} {q : Port} {r : Release} {f g : Fill} (h : s.fills k b pl q r g)
    (harm : g.arm = f.arm) (hproduct : g.product = f.product) (hlimit : g.limit = f.limit)
    (hdelivered : g.delivered ≤ f.delivered) : s.fills k b pl q r f := by
  obtain ⟨c, g', gs, hc, hst, ha, hp, hl, hd⟩ := h
  exact ⟨c, g', gs, hc, hst, ha.trans harm, hp.trans hproduct, hl.trans hlimit, hd.trans hdelivered⟩

/-- An event of the clock, the lines or the links begins no fill. -/
theorem fills_of_event (h : Changes noRequest s t) {b : Booking} {pl : Plan} {q : Port} {r : Release} {f : Fill} {hs : HaltSet}
    (hk : t.compAt k = some d) (hst : d.st = .filling b pl q r f hs) : s.fills k b pl q r f := by
  induction h generalizing d f hs with
  | refl => exact ⟨d, f, hs, hk, hst, rfl, rfl, rfl, le_rfl⟩
  | tail _ hstep ih =>
    obtain ⟨c, g, gs, hc, hst, harm, hproduct, hlimit, hdelivered⟩ | ⟨old, hbegun⟩ := hstep.filling_cases hk hst
    · exact State.fills_trans (ih hc hst) harm hproduct hlimit hdelivered
    · obtain ⟨_, _, _, -, -, hA⟩ := hbegun.asked
      exact hA.elim

/-- A request is carried out from a state that differs in the requesting port's receive state alone. -/
theorem Carried.start_eq {i : Instr} {r : ReqName} {args : List Byte} (h : Carried i s r p args u) :
    ∃ x, u = s.setPort p x ∧ x.role = (s.port p).role := by
  obtain rfl | rfl := h.start
  · exact ⟨u.port p, (State.setPort_port _ p).symm, rfl⟩
  · exact ⟨_, rfl, rfl⟩

/-- What the request carried out makes of a record. -/
theorem compAt_carryOut {r : ReqName} {args : List Byte} (hk : (u.carryOut r p args).compAt k = some d) :
    u.compAt k = some d ∨ ∃ v, Change (theRequest r p args) u v ∧ v.compAt k = some d := by
  obtain ⟨hadmits, h⟩ | ⟨-, h | h⟩ := State.carryOut_cases u r p args <;> rw [h] at hk
  · exact .inr ⟨_, State.owned_change hadmits, hk⟩
  · exact .inl hk
  · exact .inl hk

/-- An arm is equipped for a port that it is mapped to, with GROUND and PERMIT lines bound and the lock set (R109). -/
theorem State.notEquipped_eq_none {a : Arm} (h : s.notEquipped a p = none) :
    s.armPort a = some p ∧ s.lock = true ∧ ∃ m, (s.line m).func = some (.permit a) := by
  unfold State.notEquipped at h
  split_ifs at h with hmap hground hpermit hlock
  obtain ⟨m, hm⟩ := Option.isSome_iff_exists.1 (Option.isSome_iff_ne_none.2 (mt Option.isNone_iff_eq_none.2 hpermit))
  exact ⟨not_not.1 hmap, by simpa using hlock, m, State.boundLine_some hm⟩

theorem State.boundLevel_some {fn : Func} {lv : Level} (h : s.boundLevel fn = some lv) :
    ∃ l, (s.line l).func = some fn ∧ (s.line l).level = lv := by
  obtain ⟨l, hl, hlevel⟩ := Option.map_eq_some_iff.1 h
  exact ⟨l, State.boundLine_some hl, hlevel⟩

theorem State.inactive_of_dry (hb : s.bindingsAgree) {a : Arm} (h : s.notDry a = false) (o : LineNo)
    (ho : (s.line o).func = some (.overfill a)) : (s.line o).level = .inactive := by
  by_contra hlevel
  exact absurd (h.symm.trans ((State.notDry_iff hb).2 ⟨o, ho, hlevel⟩)) nofun

/-- Settles O59: a fill after a command was there before, or the command carried out a FILL BEGIN that passed its checks. -/
theorem onlyReleasedCompartmentsFill : Obligations.OnlyReleasedCompartmentsFill := by
  intro i s t k d b pl h r f hs hb hexec hk hst
  obtain ⟨q, p, args, u, hcarried, rfl⟩ | hevent := exec_cases hexec
  swap
  · exact .inl (fills_of_event hevent hk hst)
  obtain ⟨x, rfl, hrole⟩ := hcarried.start_eq
  obtain hc | ⟨v, hv, hc⟩ := compAt_carryOut hk
  · exact .inl ⟨d, f, hs, hc, hst, rfl, rfl, rfl, le_rfl⟩
  obtain hfills | ⟨old, hbegun⟩ := hv.filling_cases hc hst
  · exact .inl hfills
  obtain ⟨c, hc, hcst⟩ := hbegun.was
  obtain ⟨tag, index, found, hnames, hslot, rfl, rfl, rfl⟩ := hbegun.asked
  obtain ⟨harm, hlock, hpermit⟩ := State.notEquipped_eq_none hbegun.equipped
  exact .inr ⟨c, old, hc, hcst, hbegun.frozen, ⟨tag, index, found, hnames, hslot, hcarried.long rfl⟩, hbegun.product,
    hbegun.empty, hbegun.flowing, (State.role_congr hrole _).symm.trans hbegun.role, harm, hlock,
    State.boundLevel_some hbegun.bonded, hpermit, State.inactive_of_dry hb hbegun.dry,
    fun j c' f' h' hj hf => State.fillOn_eq_none.1 hbegun.free j c' f' h' hj hf⟩

/-! ### Releases -/

/-- The record in the slot is RELEASED, with the same release but for its target, and no less validity. -/
def State.releases (s : State) (k : Slot) (r : Release) : Prop :=
  ∃ c b pl old, s.compAt k = some c ∧ c.st = .released b pl old ∧ r.closureTag = old.closureTag ∧
    r.time = old.time ∧ r.conductivity = old.conductivity ∧ r.performed = old.performed ∧
    r.foodBay = old.foodBay ∧ r.frozen = old.frozen ∧ r.remaining ≤ old.remaining

/-- A release that is granted in the slot, with everything INSPECT RESULT checks (R92 to R97). -/
structure Granted (A : Taking) (s : State) (k : Slot) (b : Booking) (pl : Plan) (r : Release) (c : Comp) (h : Port)
    (tag index reported : Nat) (found : Found) (x : Reading) : Prop where
  was : s.compAt k = some c
  inspected : c.st = .inspecting b pl h
  role : s.role h = .inspect
  names : s.names tag index found
  slot : found.slot = k
  reported_le : reported ≤ 65535
  asked : A .inspectResult h (addressBytes tag index ++ argBytes [(1, 1), (2, reported), (3, r.closureTag)])
  decides : s.deciding h reported = some x
  within : x.conductivity ≤ (s.classLimit b.cls).conductivity
  grant : r = s.grant c b pl x r.closureTag
  tag_range : 1 ≤ r.closureTag ∧ r.closureTag ≤ 999999

/-- A record RELEASED after counting an advance was RELEASED before it with no less validity. -/
theorem Comp.counted_released {b : Booking} {pl : Plan} {r : Release} (h : c.counted.st = .released b pl r)
    (hc : s.compAt k = some c) : s.releases k r := by
  obtain heq | ⟨_, _, _, hst, heq⟩ | ⟨b', pl', r', hst, -, heq⟩ := c.counted_cases <;> rw [heq] at h
  · exact ⟨c, b, pl, r, hc, h, rfl, rfl, rfl, rfl, rfl, rfl, le_rfl⟩
  · cases h
  · cases h
    exact ⟨c, b, pl, r', hc, hst, rfl, rfl, rfl, rfl, rfl, rfl, Nat.sub_le ..⟩

/-- A record RELEASED after a move was RELEASED before it, or is released by a passed inspection. -/
theorem Move.released_cases (h : Move A s k c c') (hc : s.compAt k = some c) {b : Booking} {pl : Plan} {r : Release}
    (hst' : c'.st = .released b pl r) :
    s.releases k r ∨ ∃ q tag index reported found x, Granted A s k b pl r c q tag index reported found x := by
  have hkept : c.st = .released b pl r → s.releases k r :=
    fun hst => ⟨c, b, pl, r, hc, hst, rfl, rfl, rfl, rfl, rfl, rfl, le_rfl⟩
  cases h with
  | keptReleased _ hst => cases hst'; exact .inl ⟨c, _, _, _, hc, hst, rfl, rfl, rfl, rfl, rfl, rfl, le_rfl⟩
  | passed hA hf hslot hst hp hreported htag hr hlimit =>
    cases hst'
    exact .inr ⟨_, _, _, _, _, _, hc, hst, hp, hf, hslot, hreported, hA, hr, hlimit, rfl, htag⟩
  | acknowledged => exact .inl (hkept hst')
  | sampled _ hsample =>
    obtain ⟨h, -⟩ | ⟨h, -⟩ := Comp.caughtUp_cases _ <;> rw [h] at hst'
    · cases hsample <;> cases hst'
    · obtain heq | ⟨_, _, _, -, heq⟩ | ⟨_, _, _, hst, -, -⟩ := Comp.counted_cases { c with st := _, performed := _ }
      · rw [heq] at hst'
        cases hsample <;> cases hst'
      · rw [heq] at hst'
        cases hst'
      · cases hsample <;> cases hst
  | caughtUp => exact .inl (Comp.counted_released (c := c) hst' hc)
  | reached =>
    obtain ⟨-, h⟩ | ⟨-, h⟩ := c.reached_cases <;> rw [h] at hst'
    · exact .inl (Comp.counted_released hst' hc)
    · exact .inl (hkept hst')
  | fillEnded => rw [endedFill_st] at hst'; cases hst'
  | fillRevoked | inspectionBlocked | tagRefused | halted | overrunBlocked | expired =>
    rw [Comp.capture_st] at hst'; cases hst'
  | _ => cases hst'

theorem Change.released_cases (h : Change A s t) {b : Booking} {pl : Plan} {r : Release} (hk : t.compAt k = some d)
    (hst : d.st = .released b pl r) :
    s.releases k r ∨ ∃ c q tag index reported found x, Granted A s k b pl r c q tag index reported found x := by
  obtain hc | ⟨c, hc, hm⟩ | hnew := h.compAt_cases hk
  · exact .inl ⟨d, b, pl, r, hc, hst, rfl, rfl, rfl, rfl, rfl, rfl, le_rfl⟩
  · exact (hm.released_cases hc hst).imp_right fun h => ⟨c, h⟩
  · cases hnew
    cases hst

/-- An event of the clock, the lines or the links releases nothing. -/
theorem releases_of_event (h : Changes noRequest s t) {b : Booking} {pl : Plan} {r : Release} (hk : t.compAt k = some d)
    (hst : d.st = .released b pl r) : s.releases k r := by
  induction h generalizing d b pl r with
  | refl => exact ⟨d, b, pl, r, hk, hst, rfl, rfl, rfl, rfl, rfl, rfl, le_rfl⟩
  | tail _ hstep ih =>
    obtain ⟨c, b', pl', old, hc, hst, h1, h2, h3, h4, h5, h6, h7⟩ | ⟨_, _, _, _, _, _, _, hgranted⟩ :=
      hstep.released_cases hk hst
    · obtain ⟨c₀, b₀, pl₀, old₀, hc₀, hst₀, g1, g2, g3, g4, g5, g6, g7⟩ := ih hc hst
      exact ⟨c₀, b₀, pl₀, old₀, hc₀, hst₀, h1.trans g1, h2.trans g2, h3.trans g3, h4.trans g4, h5.trans g5, h6.trans g6,
        h7.trans g7⟩
    · exact hgranted.asked.elim

/-- Where no probe is bound the reported conductivity decides, after its clamp (R92, R93). -/
theorem State.deciding_reported {reported : Nat} {x : Reading} (h : s.deciding p reported = some x)
    (hl : ∀ l, (s.line l).func ≠ some (.rinseProbe p)) : x.conductivity = min reported 20000 := by
  have hbound : s.probeBound p ≠ true := fun hbound => by
    obtain ⟨l, hfunc⟩ := State.probeBound_iff.1 hbound
    exact hl l hfunc
  unfold State.deciding at h
  rw [if_neg hbound] at h
  cases h
  rfl

/-- Where a probe is bound its settled reading decides (R93, R95). -/
theorem State.deciding_probe {reported : Nat} {x : Reading} (h : s.deciding p reported = some x)
    (hl : ∃ l, (s.line l).func = some (.rinseProbe p)) :
    ∃ y z, s.probe p = some y ∧ y.pendingMark = false ∧ y.reading = some z ∧ x.conductivity = z.conductivity := by
  unfold State.deciding State.settledReading at h
  rw [if_pos (State.probeBound_iff.2 hl)] at h
  obtain ⟨n, hn, rfl⟩ := Option.map_eq_some_iff.1 h
  split at hn
  next y hy =>
    split_ifs at hn with hpending
    obtain ⟨z, hz, rfl⟩ := Option.map_eq_some_iff.1 hn
    exact ⟨y, z, hy, by simpa using hpending, hz, rfl⟩
  next => cases hn

/-- Settles O60: a release after a command was there before, or the command carried out an INSPECT RESULT that passed. -/
theorem onlyAPassReleases : Obligations.OnlyAPassReleases := by
  intro i s t k d b pl r hexec hk hst
  obtain ⟨q, p, args, u, hcarried, rfl⟩ | hevent := exec_cases hexec
  swap
  · exact .inl (releases_of_event hevent hk hst)
  obtain ⟨x, rfl, hrole⟩ := hcarried.start_eq
  obtain hc | ⟨v, hv, hc⟩ := compAt_carryOut hk
  · exact .inl ⟨d, b, pl, r, hc, hst, rfl, rfl, rfl, rfl, rfl, rfl, le_rfl⟩
  obtain hreleases | ⟨c, h, tag, index, reported, found, y, hgranted⟩ := hv.released_cases hc hst
  · exact .inl hreleases
  obtain ⟨rfl, rfl, rfl⟩ := hgranted.asked
  have hcond : r.conductivity = y.conductivity := by rw [hgranted.grant]; rfl
  refine .inr ⟨c, h, hgranted.was, hgranted.inspected, (State.role_congr hrole _).symm.trans hgranted.role,
    ⟨tag, index, found, reported, hgranted.names, hgranted.slot, hgranted.reported_le, hcarried.long rfl,
      fun hl => hcond.trans (State.deciding_reported hgranted.decides hl)⟩,
    fun hl => ?_, hcond ▸ hgranted.within, ?_⟩
  · obtain ⟨z, w, hz, hpending, hw, hy⟩ := State.deciding_probe hgranted.decides hl
    exact ⟨z, w, hz, hpending, hw, hcond.trans hy⟩
  · have hgrant := hgranted.grant
    exact ⟨by rw [hgrant]; rfl, by rw [hgrant]; rfl, by rw [hgrant]; rfl, by rw [hgrant]; rfl, by rw [hgrant]; rfl,
      by rw [hgrant]; rfl, hgranted.tag_range⟩

end Sys2Proof.Machine
end

section
/-! PROOF. What every request's owner leaves and answers: the links stay, a refusal changes nothing, and the answer fits the
port's reply limit (R163, R172, R181, R182). -/

namespace Sys2Proof.Machine

variable {s u : State} {p : Port} {a : Answer} {tag index : Nat}

/-! ### Sizes of answers -/

/-- Every plan held has at most six steps (R32, R36). -/
def State.plansFit (s : State) : Prop :=
  ∀ (k : Slot) (c : Comp) (pl : Plan), s.compAt k = some c → c.st.plan = some pl → pl.steps.length ≤ 6

@[simp] theorem okWith_data (d : List Byte) : (okWith d).data = d := rfl

@[simp] theorem okWith_result (d : List Byte) : (okWith d).result = .ok := rfl

theorem length_optPart_le {α : Type} {x : Option α} {f : α → List Byte} {n : Nat} (h : ∀ y, (f y).length ≤ n) :
    (optPart x f).length ≤ n + 1 := by
  cases x with
  | none => simp [optPart]
  | some y => simpa [optPart] using h y

theorem length_flatMap_of {α : Type} {f : α → List Byte} {n : Nat} (xs : List α) (h : ∀ x, (f x).length = n) :
    (xs.flatMap f).length = xs.length * n := by
  simp [List.length_flatMap, h]

theorem length_slotBytes_le (c : Comp) : (slotBytes c).length ≤ 8 := by
  unfold slotBytes
  split <;> simp [incidentBytes]

theorem length_recordBytes_le (f : Found) : (recordBytes f).length ≤ 93 := by
  have hlast : (optPart f.comp.last fun l => beBytes 2 l.code ++ beBytes 1 l.cls.val).length ≤ 3 + 1 :=
    length_optPart_le fun l => by simp
  have hbooking : (optPart f.comp.st.booking bookingBytes).length ≤ 4 + 1 :=
    length_optPart_le fun b => by simp [bookingBytes]
  have hplan : (optPart f.comp.st.plan planBytes).length ≤ 11 + 1 := length_optPart_le fun pl => by simp [planBytes]
  have hreading : (optPart f.comp.reading readingBytes).length ≤ 3 + 1 :=
    length_optPart_le fun r => by simp [readingBytes]
  have hrelease : (optPart f.comp.st.release releaseBytes).length ≤ 16 + 1 :=
    length_optPart_le fun r => by simp [releaseBytes]
  have hfill : (optPart f.comp.st.fill fillBytes).length ≤ 7 + 1 := length_optPart_le fun x => by simp [fillBytes]
  have hloaded : (optPart f.comp.st.loadedPart loadedBytes).length ≤ 3 + 1 :=
    length_optPart_le fun q => by simp [loadedBytes]
  have hslot := length_slotBytes_le f.comp
  simp only [recordBytes, List.length_append, length_beBytes]
  omega

theorem length_summaryBytes (x : Slot × Comp) : (summaryBytes x).length = 12 := by
  unfold summaryBytes
  split <;> simp

theorem length_entryBytes (e : Entry) : (entryBytes s e).length = 6 := by
  unfold entryBytes
  split <;> simp

theorem length_workBytes_le {w : Work} (h : w.plan.steps.length ≤ 6) : (workBytes w).length ≤ 93 := by
  have hsteps : (w.plan.steps.flatMap stepBytes).length = w.plan.steps.length * 9 :=
    length_flatMap_of _ fun st => by simp [stepBytes]
  simp only [workBytes, List.length_append, length_beBytes, hsteps]
  omega

/-- A walk gives no more summaries than it has room for. -/
theorem State.length_walk_le (ks : List Slot) (room : Nat) : (s.walk ks room).1.length ≤ room := by
  induction ks generalizing room with
  | nil => simp [State.walk]
  | cons k ks ih =>
    unfold State.walk
    split
    next => exact ih room
    next c hc =>
      split
      next => simp
      next n => simpa using ih n

/-! ### What an owner leaves and answers -/

/-- What holds of every request's outcome before the reply: all links stand as they stood, the other ports' limits too; a
refusal other than TAG_MISMATCH has changed nothing; the answer fits the port's reply limit. -/
structure Answered (s : State) (p : Port) (x : State × Answer) : Prop where
  link : ∀ q, (x.1.port q).rx = (s.port q).rx ∧ (x.1.port q).flags = (s.port q).flags
  limits : ∀ q, q ≠ p → (x.1.port q).limit = (s.port q).limit
  refused : x.2.result.isRefusal = true → x.2.result ≠ .tagMismatch → x.1 = s
  fits : 96 ≤ (s.port p).limit → s.plansFit → x.2.data.length + 3 ≤ (x.1.port p).limit

/-- The same of what an owner does after check 3, which answers with RANGE and is the only check that does (R165). -/
structure Decided (s : State) (p : Port) (x : State × Answer) : Prop extends Answered s p x where
  inRange : x.2.result ≠ .range

theorem Decided.read (h : 96 ≤ (s.port p).limit → s.plansFit → a.data.length + 3 ≤ (s.port p).limit)
    (hr : a.result ≠ .range := by nofun) : Decided s p (s, a) :=
  ⟨⟨fun _ => ⟨rfl, rfl⟩, fun _ _ => rfl, fun _ _ => rfl, h⟩, hr⟩

theorem Decided.short (h : a.data.length ≤ 93) (hr : a.result ≠ .range := by nofun) : Decided s p (s, a) :=
  .read (fun hl _ => by omega) hr

theorem Answered.refuse (r : Result) (d : Nat) : Answered s p (s, refuse r d) :=
  ⟨fun _ => ⟨rfl, rfl⟩, fun _ _ => rfl, fun _ _ => rfl, fun hl _ => (Nat.le_of_ble_eq_true rfl : 3 ≤ 96).trans hl⟩

theorem Decided.refuse (r : Result) (d : Nat) (hr : r ≠ .range := by decide) : Decided s p (s, refuse r d) :=
  ⟨.refuse r d, hr⟩

/-- An accepted request that leaves the ports as they are. -/
theorem Decided.done (hports : u.ports = s.ports) (hr : a.result.isRefusal = false ∨ a.result = .tagMismatch)
    (h : a.data.length ≤ 93) : Decided s p (u, a) := by
  have hport : ∀ q, u.port q = s.port q := fun q => by rw [State.port, hports, State.port]
  refine ⟨⟨fun q => by simp [hport], fun q _ => by simp [hport], fun h1 h2 => ?_, fun hl _ => ?_⟩, fun h1 => ?_⟩
  · obtain hr | hr := hr
    · simp [hr] at h1
    · exact absurd hr h2
  · simp only [hport]
    omega
  · simp only at h1
    rw [h1] at hr
    exact hr.elim nofun nofun

theorem Decided.ok {d : List Byte} (hports : u.ports = s.ports) (h : d.length ≤ 93) : Decided s p (u, okWith d) :=
  .done hports (.inl rfl) h

theorem Answered.withArgs {args : Except Nat (List Nat)} {act : List Nat → State × Answer}
    (h : ∀ vs, Decided s p (act vs)) : Answered s p (withArgs args s act) :=
  withArgs_induction .refuse fun vs _ => (h vs).toAnswered

theorem Decided.withComp {act : Found → State × Answer} (h : ∀ f, s.find tag index = some f → Decided s p (act f)) :
    Decided s p (s.withComp tag index act) := by
  obtain h' | h' | ⟨f, hf, h'⟩ := State.withComp_cases s tag index act <;> rw [h']
  · exact .refuse _ _
  · exact .refuse _ _
  · exact h f hf

theorem Decided.needsHold {c : Comp} {act : State × Answer} (h : Decided s p act) :
    Decided s p (needsHold p s c act) := by
  obtain ⟨-, h'⟩ | ⟨_, -, -, h'⟩ | ⟨-, h'⟩ := needsHold_cases p s c act <;> rw [h']
  · exact .refuse _ _
  · exact .refuse _ _
  · exact h

theorem Decided.needsNoHolder {c : Comp} {act : State × Answer} (h : Decided s p act) :
    Decided s p (needsNoHolder s c act) := by
  obtain ⟨-, h'⟩ | ⟨_, -, h'⟩ := needsNoHolder_cases s c act <;> rw [h']
  · exact h
  · exact .refuse _ _

/-! ### The planner's requests -/

theorem planAfresh_decided {k : Slot} {c : Comp} {b : Booking} {food : Bool} {d : Derived} :
    Decided s p (planAfresh k c b food d s) := by
  unfold planAfresh
  split
  next => exact .ok rfl (by simp)
  next => exact .ok rfl (by simp)
  next =>
    split
    next => exact .refuse _ _
    next => exact .ok rfl (by simp)

theorem requeue_ports {k : Slot} {c : Comp} {old b : Booking} {pl : Plan} : (requeue k c old b pl s).ports = s.ports := by
  unfold requeue
  split_ifs <;> rfl

theorem bookQueued_decided {k : Slot} {c : Comp} {old b : Booking} {pl : Plan} {food : Bool} {d : Derived} :
    Decided s p (bookQueued k c old pl b food d s) := by
  unfold bookQueued
  split
  next => exact .ok rfl (by simp)
  next => exact .ok rfl (by simp)
  next =>
    split_ifs
    · exact .ok requeue_ports (by simp)
    · split
      next => exact .refuse _ _
      next => exact .ok requeue_ports (by simp)

theorem bookWashed_decided {k : Slot} {c : Comp} {b : Booking} {pl : Plan} {food : Bool} {d : Derived} :
    Decided s p (bookWashed k c pl b food d s) := by
  unfold bookWashed
  split
  next => exact .ok rfl (by simp)
  next =>
    split_ifs
    · exact .ok rfl (by simp)
    · split
      next => exact .refuse _ _
      next => exact .ok rfl (by simp)

theorem bookReleased_decided {k : Slot} {c : Comp} {b : Booking} {pl : Plan} {r : Release} {food : Bool} {d : Derived} :
    Decided s p (bookReleased k c pl r b food d s) := by
  unfold bookReleased
  split_ifs
  · exact .ok rfl (by simp)
  · exact bookWashed_decided

theorem bookFaults_decided {k : Slot} {c : Comp} {b : Booking} {food : Bool} {d : Derived} :
    Decided s p (bookFaults k c b food d s) := by
  unfold bookFaults
  split
  next => exact .ok rfl (by simp)
  next => exact .ok rfl (by simp)
  next =>
    split
    next => exact .refuse _ _
    next => exact .ok rfl (by simp)

theorem book_decided {target : Nat} {pr : Priority} : Decided s p (book tag index target pr s) := by
  refine .withComp fun f _ => .needsNoHolder ?_
  split_ifs
  · exact .refuse _ _
  · split
    next => exact .refuse _ _
    next =>
      unfold bookBy
      split
      next => exact planAfresh_decided
      next => exact bookQueued_decided
      next => exact bookWashed_decided
      next => exact bookReleased_decided
      next => exact planAfresh_decided
      next => exact bookFaults_decided
      all_goals exact .refuse _ _

theorem unblock_decided : Decided s p (unblock tag index s) := by
  refine .withComp fun f _ => ?_
  split
  next => exact planAfresh_decided
  next => exact planAfresh_decided
  all_goals exact .refuse _ _

theorem defineProduct_decided {e : Product} : Decided s p (defineProduct e s) := by
  unfold defineProduct
  split_ifs
  · exact .refuse _ _
  · exact .refuse _ _
  · exact .ok rfl (by simp)

theorem deleteProduct_decided {code : Nat} : Decided s p (deleteProduct code s) := by
  unfold deleteProduct
  split_ifs
  · exact .refuse _ _
  · exact .refuse _ _
  · exact .ok rfl (by simp)

/-! ### The yard's records -/

theorem makeComps_ports {t : TankerSlot} {cs : List (Nat × Nat)} {i : Nat} :
    (makeComps t tag i cs s).ports = s.ports := by
  induction cs generalizing i s with
  | nil => rfl
  | cons x cs ih => exact ih

theorem registerTanker_decided {cs : List (Nat × Nat)} : Decided s p (registerTanker tag cs s) := by
  unfold registerTanker
  split_ifs
  · exact .refuse _ _
  · split
    next => exact .refuse _ _
    next =>
      split
      next => exact .refuse _ _
      next => exact .ok (makeComps_ports.trans rfl) (by simp)

theorem departTanker_decided : Decided s p (departTanker tag s) := by
  unfold departTanker
  split
  next => exact .refuse _ _
  next =>
    split
    next => exact .refuse _ _
    next => exact .ok (by simp [State.freeTankerSlot, State.dequeueTanker]) (by simp)

theorem clearYard_decided : Decided s p (clearYard s) := .ok rfl (by simp)

theorem revoke_decided : Decided s p (revoke tag index s) := by
  refine .withComp fun f _ => ?_
  split
  next => exact .ok rfl (by simp)
  next => exact .ok rfl (by simp)
  next => exact .ok rfl (by simp)
  next => exact .ok rfl (by simp)
  all_goals exact .refuse _ _

theorem ackIncident_decided : Decided s p (ackIncident tag index s) := by
  refine .withComp fun f _ => ?_
  split
  next => exact .refuse _ _
  next => exact .ok rfl (by simp [incidentBytes])

/-! ### The bays' requests -/

theorem State.firstWork_plan {dock : Option (TankerSlot × Tanker)} {w : Work} (h : s.firstWork p dock = some w)
    (hfit : s.plansFit) : w.plan.steps.length ≤ 6 := by
  obtain ⟨e, -, he⟩ := List.exists_of_findSome?_eq_some h
  obtain ⟨hf, hst, -⟩ := State.eligible_eq_some.1 he
  exact hfit _ _ _ (State.find_compAt hf) (by rw [hst]; rfl)

theorem nextWork_decided : Decided s p (nextWork p s) := by
  unfold nextWork
  split_ifs
  · exact .refuse _ _
  · split
    next w hw =>
      have hports : (s.handOut p (s.dockedTanker p).isSome w).ports = s.ports := by
        unfold State.handOut
        split_ifs <;> rfl
      have hport : ∀ q, (s.handOut p (s.dockedTanker p).isSome w).port q = s.port q := fun q => by
        rw [State.port, hports, State.port]
      refine ⟨⟨fun q => by simp [hport], fun q _ => by simp [hport],
        fun h => by simp [okWith, Result.isRefusal, resultCode] at h, fun hl hfit => ?_⟩, nofun⟩
      have := length_workBytes_le (State.firstWork_plan hw hfit)
      simp only [hport, okWith_data]
      omega
    next => exact .short (by simp)

theorem giveBack_decided : Decided s p (giveBack p tag index s) := by
  refine .withComp fun f _ => .needsHold ?_
  split
  next => exact .ok rfl (by simp)
  next => exact .refuse _ _

theorem undock_decided : Decided s p (undock p s) := by
  unfold undock
  split
  next => exact .ok rfl (by simp)
  next =>
    split
    next => exact .ok rfl (by simp)
    next => exact .refuse _ _

theorem stepStart_decided {step : Nat} : Decided s p (stepStart p tag index step s) := by
  refine .withComp fun f _ => .needsHold ?_
  split
  next =>
    split_ifs
    · exact .refuse _ _
    · exact .refuse _ _
    · exact .ok rfl (by simp [startBytes])
  next => exact .refuse _ _

theorem takeSample_decided {f : Found} {b : Booking} {pl : Plan} {h : Port} {x : Sample} :
    Decided s p (takeSample f b pl h x s) := by
  have hlen : ∀ notes wt inc dose mis st i, (sampleBytes notes wt inc dose mis st i).length ≤ 93 := by
    simp [sampleBytes]
  unfold takeSample
  split_ifs
  · exact .ok rfl (hlen ..)
  · exact .ok rfl (hlen ..)
  · exact .ok rfl (hlen ..)
  · exact .done rfl (.inl rfl) (hlen ..)
  · exact .done rfl (.inl rfl) (hlen ..)

theorem washSample_decided {x : Sample} : Decided s p (washSample p tag index x s) := by
  refine .withComp fun f _ => .needsHold ?_
  split
  next => exact takeSample_decided
  next => exact .refuse _ _

/-! ### Inspection -/

theorem inspectBegin_decided : Decided s p (inspectBegin p tag index s) := by
  refine .withComp fun f _ => .needsNoHolder ?_
  split
  next => exact .ok rfl (by simp [beginBytes])
  next => exact .refuse _ _

theorem inspectCancel_decided : Decided s p (inspectCancel p tag index s) := by
  refine .withComp fun f _ => .needsHold ?_
  split
  next => exact .ok rfl (by simp)
  next => exact .refuse _ _

theorem decideResult_decided {f : Found} {b : Booking} {pl : Plan} {h : Port} {r : Reading} {pass : Bool}
    {reported ctag : Nat} : Decided s p (decideResult f b pl h r pass reported ctag s) := by
  unfold decideResult
  split_ifs
  · exact .ok rfl (by simp [resultBytes])
  · exact .ok rfl (by simp [resultBytes])
  · exact .ok rfl (by simp [resultBytes])
  · exact .ok rfl (by simp [resultBytes])

theorem inspectResult_decided {pass : Bool} {reported ctag : Nat} :
    Decided s p (inspectResult p tag index pass reported ctag s) := by
  refine .withComp fun f _ => .needsHold ?_
  split
  next =>
    split
    next => exact .refuse _ _
    next => exact decideResult_decided
  next => exact .refuse _ _

/-! ### Filling -/

theorem mapArm_decided {arm : Arm} {q : Option Port} : Decided s p (mapArm arm q s) := by
  unfold mapArm
  split
  next => exact .refuse _ _
  next => exact .ok rfl (by simp)

theorem fillReleased_decided {f : Found} {b : Booking} {pl : Plan} {r : Release} {arm : Arm} {product ctag : Nat} :
    Decided s p (fillReleased f b pl r p arm product ctag s) := by
  unfold fillReleased
  split_ifs
  · exact .refuse _ _
  · exact .done rfl (.inr rfl) (Nat.zero_le _)
  · exact .refuse _ _
  · exact .refuse _ _
  · exact .ok rfl (by simp)

theorem fillBegin_decided {arm : Arm} {product ctag : Nat} :
    Decided s p (fillBegin p tag index arm product ctag s) := by
  refine .withComp fun f _ => .needsNoHolder ?_
  split
  next => exact .refuse _ _
  next =>
    split
    next => exact .short (by simp)
    next =>
      split
      next => exact fillReleased_decided
      next => exact .refuse _ _

theorem fillVolume_decided {sent : Nat} : Decided s p (fillVolume p tag index sent s) := by
  refine .withComp fun f _ => .needsHold ?_
  split
  next => exact .done rfl (.inl (by simp only; split_ifs <;> rfl)) (by simp [volumeBytes])
  next => exact .refuse _ _

theorem fillResume_decided : Decided s p (fillResume p tag index s) := by
  refine .withComp fun f _ => .needsHold ?_
  split
  next =>
    split_ifs
    · exact .refuse _ _
    · exact .refuse _ _
    · exact .short (by simp [holdingBytes])
    · exact .short (by simp [holdingBytes])
    · exact .ok rfl (by simp)
  next => exact .refuse _ _

theorem fillEnd_decided {sent : Nat} : Decided s p (fillEnd p tag index sent s) := by
  refine .withComp fun f _ => .needsHold ?_
  split
  next => exact .ok rfl (by simp)
  next => exact .refuse _ _

/-! ### Roles, maps, limits and lines -/

/-- A port record written with the same link and limit. -/
theorem Decided.port {q : Port} {r : PortRec} {d : List Byte} (hrx : r.rx = (s.port q).rx)
    (hflags : r.flags = (s.port q).flags) (hlimit : r.limit = (s.port q).limit) (h : d.length ≤ 93) :
    Decided s p (s.setPort q r, okWith d) := by
  have hlim : ∀ x, ((s.setPort q r).port x).limit = (s.port x).limit := fun x => by
    rw [State.port_setPort]
    split_ifs with hx
    · rw [hlimit, hx]
    · rfl
  refine ⟨⟨fun x => ?_, fun x _ => hlim x, fun h => by simp [okWith, Result.isRefusal, resultCode] at h,
    fun hl _ => ?_⟩, nofun⟩
  · rw [State.port_setPort]
    split_ifs with hx
    · exact ⟨by rw [hrx, hx], by rw [hflags, hx]⟩
    · exact ⟨rfl, rfl⟩
  · simp only [hlim, okWith_data]
    omega

theorem setPortRole_decided {q : Port} {role : Role} {caps : Caps} : Decided s p (setPortRole q role caps s) := by
  unfold setPortRole
  split
  next => exact .refuse _ _
  next => exact .port rfl rfl rfl (by simp)

theorem setReplyLimit_decided {n : Nat} : Decided s p (setReplyLimit p n s) := by
  refine ⟨⟨fun q => ?_, fun q hq => ?_, fun h => by simp [setReplyLimit, okWith, Result.isRefusal, resultCode] at h,
    fun _ _ => ?_⟩, nofun⟩
  · simp only [setReplyLimit, State.port_setPort]
    split_ifs with hq
    · exact ⟨by rw [hq], by rw [hq]⟩
    · exact ⟨rfl, rfl⟩
  · simp only [setReplyLimit, State.port_setPort_ne s _ hq]
  · simp only [setReplyLimit, State.port_setPort_self, clampLimit, okWith_data, length_beBytes]
    omega

theorem configRefusal_parts {l : LineNo} {cfg : LineConfig} (h : s.configRefusal l cfg = some a) :
    a.data = [] ∧ a.result ≠ .range := by
  unfold State.configRefusal at h
  split_ifs at h
  · exact Option.some.inj h ▸ ⟨rfl, nofun⟩
  · exact Option.some.inj h ▸ ⟨rfl, nofun⟩
  · exact Option.some.inj h ▸ ⟨rfl, nofun⟩
  · exact Option.some.inj h ▸ ⟨rfl, nofun⟩
  · split at h
    next => exact Option.some.inj h ▸ ⟨rfl, nofun⟩
    next =>
      split at h
      · exact Option.some.inj h ▸ ⟨rfl, nofun⟩
      · cases h

theorem configureLine_decided {l : LineNo} {cfg : LineConfig} : Decided s p (configureLine l cfg s) := by
  unfold configureLine
  split
  next h => exact .short (by simp [(configRefusal_parts h).1]) (configRefusal_parts h).2
  next =>
    have hports : (((s.endBinding (s.line l).func).setLine l (s.configured cfg)).beginBinding cfg.func).ports =
        s.ports := by
      unfold State.beginBinding State.endBinding
      split <;> simp only [State.setProbe_ports, State.setLine_ports] <;> split <;> rfl
    refine .ok hports ?_
    unfold bindingBytes
    split <;> simp

theorem setLine_decided {l : LineNo} {latch : Bool} : Decided s p (Machine.setLine l latch s) := by
  unfold Machine.setLine
  split_ifs
  · exact .refuse _ _
  · split
    next => exact .refuse _ _
    next => exact .ok rfl (by simp)

theorem lockLines_decided : Decided s p (lockLines s) := .ok rfl (by simp)

/-! ### Reads -/

theorem readLines_decided : Decided s p (readLines s) := by
  refine .ok rfl ?_
  have hlines : (s.lines.toList.flatMap lineBytes).length = s.lines.toList.length * 3 :=
    length_flatMap_of _ fun x => by simp [lineBytes]
  rw [Vector.length_toList] at hlines
  rw [List.length_cons, hlines]
  omega

theorem readRecords_decided {cursor count : Nat} {up : Bool} : Decided s p (readRecords p cursor count up s) := by
  refine .read fun _ _ => ?_
  have hroom : walkRoom s p count ≤ ((s.port p).limit - 8) / 12 := Nat.min_le_right _ _
  have hwalk := s.length_walk_le (walkSlots cursor up) (walkRoom s p count)
  simp only [okWith_data, walkBytes, List.length_append, length_beBytes, List.length_cons, List.length_nil,
    length_flatMap_of _ length_summaryBytes]
  omega

theorem readQueue_decided {start : Nat} : Decided s p (readQueue p start s) := by
  refine .read fun _ _ => ?_
  have hpage : (queuePage s p start).length ≤ ((s.port p).limit - 5) / 6 := List.length_take_le _ _
  simp only [okWith_data, List.length_append, length_beBytes, length_flatMap_of _ length_entryBytes]
  omega

/-! ### Every request -/

theorem State.owned_answered (s : State) (r : ReqName) (p : Port) (args : List Byte) : Answered s p (s.owned r p args) := by
  cases r with
  | readStatus => exact (Decided.short (by simp [statusBytes])).toAnswered
  | readLines => exact readLines_decided.toAnswered
  | setReplyLimit => exact setReplyLimit_decided.toAnswered
  | readCompartment => exact .withArgs fun _ => .withComp fun f _ => .short (length_recordBytes_le f)
  | readRecords => exact .withArgs fun _ => readRecords_decided
  | readQueue => exact .withArgs fun _ => readQueue_decided
  | setTime => exact .withArgs fun _ => .ok rfl (by simp)
  | defineProduct => exact .withArgs fun _ => defineProduct_decided
  | deleteProduct => exact .withArgs fun _ => deleteProduct_decided
  | setMatrixRow => exact .withArgs fun _ => .ok rfl (by simp)
  | defineProgram => exact .withArgs fun _ => .ok rfl (by simp)
  | setClassLimit => exact .withArgs fun _ => .ok rfl (by simp)
  | setPortRole => exact .withArgs fun _ => setPortRole_decided
  | setAccessMap => exact .withArgs fun _ => .port rfl rfl rfl (by simp)
  | configureLine => exact .withArgs fun _ => configureLine_decided
  | lockLines => exact lockLines_decided.toAnswered
  | setLine => exact .withArgs fun _ => setLine_decided
  | setProbeCalibration => exact .withArgs fun _ => .ok rfl (by simp [signedBytes])
  | mapArm => exact .withArgs fun _ => mapArm_decided
  | clearYard => exact clearYard_decided.toAnswered
  | registerTanker =>
    unfold State.owned
    dsimp only
    split
    next => exact .refuse _ _
    next => exact registerTanker_decided.toAnswered
  | book => exact .withArgs fun _ => book_decided
  | revoke => exact .withArgs fun _ => revoke_decided
  | unblock => exact .withArgs fun _ => unblock_decided
  | ackIncident => exact .withArgs fun _ => ackIncident_decided
  | departTanker =>
    unfold State.owned
    exact .withArgs fun _ => departTanker_decided
  | nextWork => exact nextWork_decided.toAnswered
  | stepStart => exact .withArgs fun _ => stepStart_decided
  | washSample => exact .withArgs fun _ => washSample_decided
  | giveBack => exact .withArgs fun _ => giveBack_decided
  | undock => exact undock_decided.toAnswered
  | inspectBegin => exact .withArgs fun _ => inspectBegin_decided
  | inspectResult => exact .withArgs fun _ => inspectResult_decided
  | inspectCancel => exact .withArgs fun _ => inspectCancel_decided
  | fillBegin => exact .withArgs fun _ => fillBegin_decided
  | fillVolume => exact .withArgs fun _ => fillVolume_decided
  | fillResume => exact .withArgs fun _ => fillResume_decided
  | fillEnd => exact .withArgs fun _ => fillEnd_decided

/-- A request's reply is built on what its owner, or check 1 or 2, leaves and answers. -/
theorem exec_request_answered {i : Instr} {r : ReqName} {args : List Byte} (s : State)
    (h : i.request? = some (r, p, args)) :
    ∃ x : State × Answer, Answered s p x ∧ exec i s = .next (x.1.reply p r.code x.2) := by
  rw [exec_request s h]
  obtain ⟨-, h⟩ | ⟨-, h | h⟩ := State.carryOut_cases s r p args <;> rw [h]
  · exact ⟨_, State.owned_answered s r p args, rfl⟩
  · exact ⟨(s, _), .refuse _ _, rfl⟩
  · exact ⟨(s, _), .refuse _ _, rfl⟩

end Sys2Proof.Machine
end

section
/-! PROOF. The machine: its step, the state after reset, the events of a link, the reply of every request (R23, R163, R172,
R177 to R182). -/

namespace Sys2Proof.Machine

variable {s t : State} {p : Port}

/-- Settles O1: a step of a state with a command in front executes it, by the definition of the step. -/
theorem stepTakesFrontCommand : Obligations.StepTakesFrontCommand := fun _ _ _ => rfl

/-! ### The state after reset -/

theorem State.reset_port (p : Port) : State.reset.port p = resetPort (if p = .A then .office else .none) := by
  cases p <;> rfl

theorem State.reset_line (l : LineNo) : State.reset.line l = resetLine := resetLines_get l

theorem State.reset_compAt (k : Slot) : State.reset.compAt k = none := resetComps_get k

theorem State.reset_tankerAt (u : TankerSlot) : State.reset.tankerAt u = none := resetTankers_get u

/-- With no compartment record, no search over the records finds one. -/
theorem State.any_records_of_empty (h : ∀ k, s.compAt k = none) (P : Comp → Bool) : s.records.any P = false :=
  State.any_records_eq_false.2 fun k _ hc => absurd ((h k).symm.trans hc) nofun

/-- With no compartment record, every demand is low (R84, R125, R139). -/
theorem State.demand_of_empty (h : ∀ k, s.compAt k = none) {f : Func} {d : Bool} (hd : s.demand f = some d) :
    d = false := by
  have hany := s.any_records_of_empty h
  cases f with
  | permit a => exact (Option.some.inj hd).symm.trans (hany _)
  | washEnable q => exact (Option.some.inj hd).symm.trans (hany _)
  | alarm => exact (Option.some.inj hd).symm.trans (hany _)
  | ground a => cases hd
  | overfill a => cases hd
  | rinseProbe q => cases hd

/-- Settles O2: the reset state is written out, and each part is read from the table of reset values. -/
theorem hardwareResetLeaves : Obligations.HardwareResetLeaves := by
  intro s
  refine ⟨{ State.reset with pending := s.pending }, rfl, rfl, resetTankers_get, resetComps_get, rfl, rfl, rfl,
    fun r c => ?_, fun c => ?_, fun n => ?_, fun a => ?_, rfl, rfl, resetProbes_get, rfl, fun q => ?_, fun l => ?_,
    fun f d hd => State.demand_of_empty (s := { State.reset with pending := s.pending }) resetComps_get hd,
    State.any_records_of_empty (s := { State.reset with pending := s.pending }) resetComps_get _⟩
  · simp [State.matrixLevel, State.reset, resetMatrix]
  · simp [State.classLimit, State.reset, resetLimits]
  · simp [State.reset, resetPrograms]
  · simp [State.armPort, State.reset, resetArmMap]
  · cases q <;> exact ⟨rfl, rfl, rfl, rfl, rfl, rfl⟩
  · have hline : State.line { State.reset with pending := s.pending } l = resetLine := resetLines_get l
    rw [hline]
    exact ⟨rfl, rfl, rfl, rfl, rfl, rfl⟩

/-- Settles O3: right after reset there is no record, no binding and no probe record, so the invariants that speak of them
hold of nothing; the lines, ports and planner's tables stand at their reset values. -/
theorem resetIsSafe : Obligations.ResetIsSafe := by
  have hcomp : ∀ {k c}, State.reset.compAt k = some c → False := fun h =>
    absurd ((State.reset_compAt _).symm.trans h) nofun
  have htanker : ∀ {u k}, State.reset.tankerAt u = some k → False := fun h =>
    absurd ((State.reset_tankerAt _).symm.trans h) nofun
  have hfunc : ∀ {l f}, (State.reset.line l).func = some f → False := fun h => by
    rw [State.reset_line] at h
    cases h
  have hprobe : ∀ q, State.reset.probe q = none := resetProbes_get
  refine ⟨⟨fun _ _ _ => State.reset_compAt _, fun _ _ h => (htanker h).elim, fun _ _ _ _ h => (htanker h).elim⟩,
    fun _ _ h => (hcomp h).elim, fun _ _ h => (hcomp h).elim, fun _ _ _ h => (hcomp h).elim, fun q _ => ?_,
    fun _ _ _ _ _ _ _ _ h => (hcomp h).elim,
    ⟨List.nodup_nil, fun _ _ h => (hcomp h).elim, fun _ h => absurd h List.not_mem_nil⟩, List.Pairwise.nil,
    ⟨fun _ _ _ _ _ h => (htanker h).elim, fun _ _ _ _ _ _ _ h => (hcomp h).elim⟩,
    fun _ _ _ h => (hfunc h).elim, fun l => ?_,
    ⟨fun _ _ _ h => (hfunc h).elim, fun q => ⟨fun h => by simp [hprobe] at h, fun ⟨_, h⟩ => (hfunc h).elim⟩⟩,
    ⟨by decide, by decide, fun q x _ h => absurd ((hprobe q).symm.trans h) nofun⟩, fun q => ?_, reset_plannerAgrees,
    fun _ _ h => (hcomp h).elim, fun _ _ h => (hcomp h).elim⟩
  · rw [State.heldBy_eq_nil.2 fun _ _ h => (hcomp h).elim]
    exact Nat.zero_le 2
  · rw [State.reset_line]
    exact ⟨rfl, .inl rfl, nofun, nofun, nofun, nofun⟩
  · rw [State.reset_port]
    exact resetPort_agrees _

/-! ### The events of a link -/

theorem State.flag_setRx (s : State) (p : Port) (up : LinkFlags → LinkFlags) (rx : Rx) :
    (s.flag p up).setRx p rx = s.setPort p { s.port p with rx := rx, flags := up (s.port p).flags } := by
  simp [State.setRx, State.flag]

/-- Settles O9, by the receive state each clause names. -/
theorem linkEventsByState : Obligations.LinkEventsByState := by
  intro p s
  refine ⟨?_, fun owed h => ?_, fun reply h => ?_, ?_, ?_, fun h => ?_, fun ty h => ?_, ?_, fun reply h => ?_, ?_⟩
  · rintro _ h (rfl | ⟨g, rfl⟩ | ⟨g, rfl⟩) <;>
      exact congrArg Host.Outcome.next (by rw [receiveBreak, h]; exact State.flag_setRx ..)
  · exact congrArg Host.Outcome.next (by rw [receiveBreak, h]; rfl)
  · exact congrArg Host.Outcome.next (by
      rw [receiveBreak, h]
      simp [State.flag, LinkFlags.raiseBreak, LinkFlags.raiseOverrun])
  · rintro _ h (⟨g, rfl⟩ | ⟨g, rfl⟩) <;>
      exact congrArg Host.Outcome.next (by rw [receiveGap, h]; exact State.flag_setRx ..)
  · rintro _ h (rfl | ⟨o, rfl⟩ | ⟨y, rfl⟩) <;> exact congrArg Host.Outcome.next (by rw [receiveGap, h])
  · exact congrArg Host.Outcome.next (by rw [endDiscard, h]; rfl)
  · exact congrArg Host.Outcome.next (by rw [endDiscard, h]; rfl)
  · intro rx h hne
    refine congrArg Host.Outcome.next ?_
    rw [endDiscard, h]
    cases rx with
    | discard o => exact absurd rfl (hne o)
    | _ => rfl
  · refine congrArg Host.Outcome.next ?_
    rw [endReply, h]
    dsimp only
    split_ifs <;> rfl
  · intro rx h hne
    refine congrArg Host.Outcome.next ?_
    rw [endReply, h]
    cases rx with
    | replying y => exact absurd rfl (hne y)
    | _ => rfl

/-! ### The reply of every request -/

theorem reqCode_lt (r : ReqName) : r.code < 128 := by cases r <;> decide

theorem LinkFlags.bits_lt (f : LinkFlags) : f.bits < 128 := by
  have hbit : ∀ b : Bool, b.toNat ≤ 1 := Bool.toNat_le
  have h1 := hbit f.header
  have h2 := hbit f.payload
  have h3 := hbit f.gap
  have h4 := hbit f.brk
  have h5 := hbit f.length
  have h6 := hbit f.code
  have h7 := hbit f.overrun
  unfold LinkFlags.bits
  omega

/-- The flag byte as a number: the port's link flags, and ATTENTION in bit 7 (R181). -/
theorem State.flagByte_toNat (s : State) (p : Port) :
    (s.flagByte p).toNat = (s.port p).flags.bits + if s.attention then 128 else 0 := by
  have hbits := (s.port p).flags.bits_lt
  rw [State.flagByte, BitVec.toNat_ofNat]
  cases s.attention <;> simp <;> omega

/-- Settles O4: a request's reply is built on a state in which its owner left all links as they stood. -/
theorem everyRequestIsAnswered : Obligations.EveryRequestIsAnswered := by
  intro i r p args s hi
  obtain ⟨⟨u, a⟩, hanswered, hexec⟩ := exec_request_answered s hi
  have hport := fun q => State.port_reply u p q r.code a
  have hself := (hport p).trans (if_pos rfl)
  refine ⟨_, BitVec.ofNat 8 (resultCode a.result), u.flagByte p, BitVec.ofNat 8 a.detail, a.data, hexec, ?_, ?_, ?_,
    fun q hq => ?_⟩
  · rw [hself, Nat.mod_eq_of_lt (reqCode_lt r)]
    rfl
  · have hattention : (u.reply p r.code a).attention = u.attention := State.setPort_attention ..
    rw [hattention, u.flagByte_toNat, (hanswered.link p).2]
  · rw [hself]
    rfl
  · have hother := (hport q).trans (if_neg hq)
    rw [hother]
    exact ⟨(hanswered.link q).1, (hanswered.link q).2, hanswered.limits q hq⟩

/-- Settles O5: the payload is three bytes and the data of an answer that fits. -/
theorem replyFitsLimit : Obligations.ReplyFitsLimit := by
  intro i r p args s hi hports hplans
  obtain ⟨⟨u, a⟩, hanswered, hexec⟩ := exec_request_answered s hi
  have hself := (State.port_reply u p p r.code a).trans (if_pos rfl)
  refine ⟨_, ⟨_, u.replyPayload p a⟩, hexec, by rw [hself], by simp [State.replyPayload], ?_⟩
  rw [hself]
  exact hanswered.fits (hports p).1.1 hplans

theorem resultCode_lt (r : Result) : resultCode r < 256 := by cases r <;> decide

/-- The byte of a refusal other than TAG_MISMATCH is that of no other result (R185). -/
theorem isRefusal_of_byte {r : Result} (h1 : 0x41 ≤ (BitVec.ofNat 8 (resultCode r)).toNat)
    (h2 : (BitVec.ofNat 8 (resultCode r)).toNat ≠ 0x52) : r.isRefusal = true ∧ r ≠ .tagMismatch := by
  rw [BitVec.toNat_ofNat, Nat.mod_eq_of_lt (resultCode_lt r)] at h1 h2
  exact ⟨by simpa [Result.isRefusal] using h1, fun h => h2 (h ▸ rfl)⟩

/-- Settles O6: an owner that refuses has changed nothing, and putting the port's link back undoes the reply. -/
theorem refusedRequestChangesNothing : Obligations.RefusedRequestChangesNothing := by
  intro i r p args s t ty result rest hi ht hrx hrefusal htag
  obtain ⟨⟨u, a⟩, hanswered, hexec⟩ := exec_request_answered s hi
  obtain rfl : u.reply p r.code a = t := Host.Outcome.next.inj (hexec.symm.trans ht)
  have hself := (State.port_reply u p p r.code a).trans (if_pos rfl)
  obtain rfl : BitVec.ofNat 8 (resultCode a.result) = result := by
    rw [hself] at hrx
    simp only [State.replyPayload, Rx.replying.injEq, Reply.mk.injEq, List.cons.injEq] at hrx
    exact hrx.2.1
  obtain ⟨hisRefusal, hother⟩ := isRefusal_of_byte hrefusal htag
  obtain rfl : u = s := hanswered.refused hisRefusal hother
  rw [hself, State.setPort_reply]
  exact State.setPort_port u p

end Sys2Proof.Machine
end

section
/-! PROOF. Receiving bytes: what one byte does in each receive state, and that the bytes of a request's frame carry it out
(R174, R176 to R180). -/

namespace Sys2Proof.Machine

variable {s : State} {p : Port} {b : Byte} {got : List Byte}

/-! ### One byte in each receive state -/

theorem exec_byteReceived (s : State) (p : Port) (b : Byte) : exec (.byteReceived p b) s = .next (receiveByte p b s) := rfl

theorem receiveByte_idle (h : (s.port p).rx = .idle) : receiveByte p b s = s.setRx p (.header [b]) := by
  rw [receiveByte, h]

theorem receiveByte_header (h : (s.port p).rx = .header got) (hlen : got.length < 3) :
    receiveByte p b s = s.setRx p (.header (got ++ [b])) := by
  rw [receiveByte, h]
  exact if_pos (by rw [List.length_append, List.length_singleton]; omega)

theorem receiveByte_header_last (h : (s.port p).rx = .header got) (hlen : got.length = 3) :
    receiveByte p b s = s.headerComplete p (got ++ [b]) := by
  rw [receiveByte, h]
  exact if_neg (by simp [hlen])

theorem receiveByte_payload (h : (s.port p).rx = .payload got) (hlen : got.length < 4 + statedLength got + 1) :
    receiveByte p b s = s.setRx p (.payload (got ++ [b])) := by
  rw [receiveByte, h]
  exact if_pos (by rw [List.length_append, List.length_singleton]; omega)

theorem receiveByte_payload_last (h : (s.port p).rx = .payload got) (hlen : got.length = 4 + statedLength got + 1) :
    receiveByte p b s = s.longComplete p (got ++ [b]) := by
  rw [receiveByte, h]
  exact if_neg (by simp [hlen])

theorem receiveByte_discard {owed : Option Byte} (h : (s.port p).rx = .discard owed) : receiveByte p b s = s := by
  rw [receiveByte, h]

theorem receiveByte_replying {y : Reply} (h : (s.port p).rx = .replying y) :
    receiveByte p b s = s.flag p LinkFlags.raiseOverrun := by
  rw [receiveByte, h]

/-! ### A complete header (R176) -/

theorem headerComplete_of_wrong {x y z h : Byte} (hcrc : h ≠ crc8 [x, y, z]) :
    s.headerComplete p [x, y, z, h] = (s.flag p LinkFlags.raiseHeader).setRx p (.discard none) := if_pos hcrc

theorem headerComplete_of_right {x y z h : Byte} (hcrc : h = crc8 [x, y, z]) :
    s.headerComplete p [x, y, z, h] =
      if !x.msb then s.decodeFrame p x [y, z]
      else if beValue [y, z] = 0 ∨ 240 < beValue [y, z] then
        (s.flag p LinkFlags.raiseLength).setRx p (.discard (some x))
      else s.setRx p (.payload [x, y, z, h]) := if_neg (not_not.2 hcrc)

/-! ### A complete frame (R178) -/

theorem longComplete_eq {ty y z h c1 c2 : Byte} {body : List Byte} (hlen : body.length = 256 * y.toNat + z.toNat) :
    s.longComplete p (ty :: y :: z :: h :: body ++ [c1] ++ [c2]) =
      if [c1, c2] ≠ crc16Bytes body then (s.flag p LinkFlags.raisePayload).linkReply p ty
      else s.decodeFrame p ty body := by
  have hstated : statedLength (ty :: y :: z :: h :: body ++ [c1] ++ [c2]) = body.length := by
    rw [hlen, ← beValue_pair]
    rfl
  have hdrop : (ty :: y :: z :: h :: body ++ [c1] ++ [c2]).drop (4 + body.length) = [c1, c2] := by
    simp [Nat.add_comm 4]
  have hbody : ((ty :: y :: z :: h :: body ++ [c1] ++ [c2]).drop 4).take body.length = body := by simp
  rw [State.longComplete, hstated, hdrop, hbody]
  rfl

/-- A code that names no request, or one of the other form, is answered with LINK (R178). -/
theorem decodeFrame_of_wrong_form {ty : Byte} {args : List Byte}
    (h : ∀ r, ReqName.ofCode (ty.toNat % 128) = some r → r.isShort = ty.msb) :
    s.decodeFrame p ty args = (s.flag p LinkFlags.raiseCode).linkReply p ty := by
  unfold State.decodeFrame
  split
  next r hr => exact if_neg (by simp [isLong, h r hr])
  next => rfl

/-- A code that names a request of the form the frame has is carried out (R178). -/
theorem decodeFrame_of_form {ty : Byte} {args : List Byte} {r : ReqName} (hr : ReqName.ofCode (ty.toNat % 128) = some r)
    (hform : r.isShort = !ty.msb) : s.decodeFrame p ty args = (s.setRx p .idle).carryOut r p args := by
  rw [State.decodeFrame, hr]
  exact if_pos hform

/-- Settles O8, by the receive state each clause names, and the checks of a complete header or frame. -/
theorem byteReceivedByState : Obligations.ByteReceivedByState := by
  intro p b s
  refine ⟨fun h => ?_, fun got h hlen => ?_, fun x y z h hcrc => ?_, fun x y z h hcrc hmsb hlen => ?_,
    fun x y z h hcrc hmsb h1 h240 => ?_, fun x y z h rest hrx hlen => ?_, fun owed h => ?_, fun reply h => ?_,
    fun ty y z h body c1 c2 => ⟨fun hrx hlen hmsb (hcrc : [c1, c2] ≠ crc16Bytes body) => ?_,
      fun hrx hlen hmsb (hcrc : [c1, c2] = crc16Bytes body) hcode => ?_,
      fun hrx hcrc hmsb hcode => ?_⟩⟩
  · rw [exec_byteReceived, receiveByte_idle h]
    rfl
  · rw [exec_byteReceived, receiveByte_header h hlen]
    rfl
  · rw [exec_byteReceived, receiveByte_header_last h rfl]
    exact congrArg Host.Outcome.next ((headerComplete_of_wrong hcrc).trans (State.flag_setRx ..))
  · rw [exec_byteReceived, receiveByte_header_last h rfl]
    refine congrArg Host.Outcome.next ((headerComplete_of_right hcrc).trans ?_)
    rw [if_neg (by simp [hmsb]), beValue_pair, if_pos hlen, State.flag_setRx]
    rfl
  · rw [exec_byteReceived, receiveByte_header_last h rfl]
    refine congrArg Host.Outcome.next ((headerComplete_of_right hcrc).trans ?_)
    rw [if_neg (by simp [hmsb]), beValue_pair, if_neg (by omega)]
    rfl
  · have hstated : statedLength (x :: y :: z :: h :: rest) = 256 * y.toNat + z.toNat := beValue_pair y z
    rw [exec_byteReceived, receiveByte_payload hrx (by rw [hstated]; simp only [List.length_cons]; omega)]
    rfl
  · rw [exec_byteReceived, receiveByte_discard h]
  · rw [exec_byteReceived, receiveByte_replying h]
    rfl
  · have hstated : statedLength (ty :: y :: z :: h :: body ++ [c1]) = 256 * y.toNat + z.toNat := beValue_pair y z
    rw [exec_byteReceived, receiveByte_payload_last hrx (by rw [hstated]; simp [hlen]; omega), longComplete_eq hlen,
      if_pos hcrc]
    rfl
  · have hstated : statedLength (ty :: y :: z :: h :: body ++ [c1]) = 256 * y.toNat + z.toNat := beValue_pair y z
    rw [exec_byteReceived, receiveByte_payload_last hrx (by rw [hstated]; simp [hlen]; omega), longComplete_eq hlen,
      if_neg (not_not.2 hcrc), decodeFrame_of_wrong_form fun r hr => (hcode r hr).trans hmsb.symm]
    rfl
  · have hsmall : ty.toNat % 128 = ty.toNat := Nat.mod_eq_of_lt (by
      simpa [BitVec.msb_eq_decide] using hmsb)
    rw [exec_byteReceived, receiveByte_header_last hrx rfl]
    refine congrArg Host.Outcome.next ((headerComplete_of_right hcrc).trans ?_)
    rw [if_pos (by simp [hmsb]), decodeFrame_of_wrong_form (by rw [hsmall]; exact fun r hr => (hcode r hr).trans hmsb.symm),
      State.linkReply, hsmall]
    rfl

/-! ### The bytes of a frame -/

@[simp] theorem State.setRx_rx (s : State) (p : Port) (rx : Rx) : ((s.setRx p rx).port p).rx = rx := by
  simp [State.setRx]

@[simp] theorem State.setRx_setRx (s : State) (p : Port) (rx rx' : Rx) : (s.setRx p rx).setRx p rx' = s.setRx p rx' := by
  simp [State.setRx]

theorem State.setRx_of_rx {rx : Rx} (h : (s.port p).rx = rx) : s.setRx p rx = s := by
  rw [State.setRx, ← h]
  exact s.setPort_port p

/-- Receiving bytes one after another. -/
def receiveBytes (p : Port) (bs : List Byte) (s : State) : State := bs.foldl (fun x b => receiveByte p b x) s

theorem receiveBytes_append (xs ys : List Byte) (s : State) :
    receiveBytes p (xs ++ ys) s = receiveBytes p ys (receiveBytes p xs s) := List.foldl_append ..

/-- The four bytes of a header received in IDLE are checked and acted on together. -/
theorem receiveBytes_header {x y z h : Byte} (hidle : (s.port p).rx = .idle) :
    receiveBytes p [x, y, z, h] s = (s.setRx p (.header [x, y, z])).headerComplete p [x, y, z, h] := by
  have h1 : receiveByte p x s = s.setRx p (.header [x]) := receiveByte_idle hidle
  have h2 : receiveByte p y (s.setRx p (.header [x])) = s.setRx p (.header [x, y]) := by
    rw [receiveByte_header (State.setRx_rx ..) (by simp), State.setRx_setRx]
    rfl
  have h3 : receiveByte p z (s.setRx p (.header [x, y])) = s.setRx p (.header [x, y, z]) := by
    rw [receiveByte_header (State.setRx_rx ..) (by simp), State.setRx_setRx]
    rfl
  simp only [receiveBytes, List.foldl_cons, List.foldl_nil, h1, h2, h3]
  exact receiveByte_header_last (State.setRx_rx ..) rfl

/-- Bytes after a header join it as long as the frame is not complete. -/
theorem receiveBytes_payload {x y z h : Byte} (bs : List Byte) (hlen : bs.length < beValue [y, z] + 2) :
    receiveBytes p bs (s.setRx p (.payload [x, y, z, h])) = s.setRx p (.payload (x :: y :: z :: h :: bs)) := by
  induction bs using List.reverseRecOn with
  | nil => rfl
  | append_singleton bs b ih =>
    have hstated : statedLength (x :: y :: z :: h :: bs) = beValue [y, z] := rfl
    rw [List.length_append, List.length_singleton] at hlen
    rw [receiveBytes_append, ih (by omega)]
    refine (receiveByte_payload (State.setRx_rx ..) ?_).trans (State.setRx_setRx ..)
    rw [hstated]
    simp only [List.length_cons]
    omega

/-- A short frame received in IDLE is its request carried out. -/
theorem receiveBytes_shortFrame {ty b1 b2 : Byte} {r : ReqName} (hidle : (s.port p).rx = .idle)
    (hr : ReqName.ofCode (ty.toNat % 128) = some r) (hmsb : ty.msb = false) (hform : r.isShort = true) :
    receiveBytes p (shortFrame ty b1 b2) s = s.carryOut r p [b1, b2] := by
  rw [shortFrame, receiveBytes_header hidle, headerComplete_of_right rfl, if_pos (by simp [hmsb]),
    decodeFrame_of_form hr (by simp [hform, hmsb]), State.setRx_setRx, State.setRx_of_rx hidle]

/-- A long frame received in IDLE is its request carried out. -/
theorem receiveBytes_longFrame {ty : Byte} {args : List Byte} {r : ReqName} (hidle : (s.port p).rx = .idle)
    (hr : ReqName.ofCode (ty.toNat % 128) = some r) (hmsb : ty.msb = true) (hform : r.isShort = false)
    (h1 : 1 ≤ args.length) (h240 : args.length ≤ 240) :
    receiveBytes p (longFrame ty args) s = s.carryOut r p args := by
  obtain ⟨y, z, hyz⟩ : ∃ y z, beBytes 2 args.length = [y, z] := ⟨_, _, rfl⟩
  obtain ⟨c1, c2, hcrc⟩ : ∃ c1 c2, crc16Bytes args = [c1, c2] := ⟨_, _, rfl⟩
  have hvalue : beValue [y, z] = args.length := by
    rw [← hyz]
    exact beValue_beBytes_of_lt (by omega)
  have hframe : longFrame ty args = [ty, y, z, crc8 [ty, y, z]] ++ (args ++ [c1]) ++ [c2] := by
    simp [longFrame, hyz, hcrc]
  have hstated : statedLength (ty :: y :: z :: crc8 [ty, y, z] :: args ++ [c1]) = args.length := hvalue
  have hcomplete : receiveBytes p [c2] (s.setRx p (.payload (ty :: y :: z :: crc8 [ty, y, z] :: (args ++ [c1])))) =
      (s.setRx p (.payload (ty :: y :: z :: crc8 [ty, y, z] :: (args ++ [c1])))).longComplete p
        (ty :: y :: z :: crc8 [ty, y, z] :: args ++ [c1] ++ [c2]) := by
    refine receiveByte_payload_last (State.setRx_rx ..) ?_
    rw [hstated]
    simp only [List.length_cons, List.length_append, List.length_nil]
    omega
  rw [hframe, receiveBytes_append, receiveBytes_append, receiveBytes_header hidle, headerComplete_of_right rfl,
    if_neg (by simp [hmsb]), if_neg (by omega), State.setRx_setRx,
    receiveBytes_payload _ (by rw [hvalue]; simp), hcomplete, longComplete_eq (by rw [← hvalue, beValue_pair]),
    if_neg (not_not.2 hcrc.symm), decodeFrame_of_form hr (by simp [hform, hmsb]), State.setRx_setRx,
    State.setRx_of_rx hidle]

/-- The arguments of a short request are the two bytes of its frame. -/
theorem args_of_short {i : Instr} {r : ReqName} {args : List Byte} (h : i.request? = some (r, p, args))
    (hform : r.isShort = true) : args = [args.getD 0 0, args.getD 1 0] := by
  revert hform
  cases i <;> cases h <;> simp [ReqName.isShort]

/-- The arguments of a long request are the payload of its frame. -/
theorem payload_of_long {i : Instr} {r : ReqName} {args : List Byte} (h : i.request? = some (r, p, args))
    (hform : r.isShort = false) : i.payload? = some args := by
  revert hform
  cases i <;> cases h <;> simp [ReqName.isShort, Instr.payload?]

theorem ofCode_short (r : ReqName) : ReqName.ofCode ((BitVec.ofNat 8 r.code).toNat % 128) = some r := by
  cases r <;> decide

theorem ofCode_long (r : ReqName) : ReqName.ofCode ((BitVec.ofNat 8 r.code ||| 0x80#8).toNat % 128) = some r := by
  cases r <;> decide

theorem msb_short (r : ReqName) : (BitVec.ofNat 8 r.code).msb = false := by cases r <;> decide

theorem msb_long (r : ReqName) : (BitVec.ofNat 8 r.code ||| 0x80#8).msb = true := by cases r <;> decide

/-- Settles O7: the bytes of a short and of a long frame, by the form of the request. -/
theorem frameCarriesRequest : Obligations.FrameCarriesRequest := by
  intro i r p args s hi hwf hidle
  have hframe : i.frame = requestFrame r args := by rw [Instr.frame, hi]
  rw [exec_request s hi, hframe, requestFrame]
  refine congrArg Host.Outcome.next ?_
  cases hform : r.isShort with
  | true =>
    rw [if_pos rfl]
    exact (congrArg _ (args_of_short hi hform)).trans
      (receiveBytes_shortFrame hidle (ofCode_short r) (msb_short r) hform).symm
  | false =>
    obtain ⟨h1, h240⟩ : 1 ≤ args.length ∧ args.length ≤ 240 := by
      simpa [Instr.wf, payload_of_long hi hform, payloadWf] using hwf
    rw [if_neg Bool.false_ne_true]
    exact (receiveBytes_longFrame hidle (ofCode_long r) (msb_long r) hform h1 h240).symm

end Sys2Proof.Machine
end

section
/-! PROOF. Check 3: the arguments of every long request held against the ranges its rule states (R165, R183). -/

namespace Sys2Proof.Machine

variable {s : State} {p : Port} {r : ReqName}

/-! ### Taking arguments in order -/

/-- What a failure of check 3 has found: the arguments before it are there and in range, and it is not. -/
theorem takeFields_error : ∀ {fs : List Field} {got : List Nat} {bs : List Byte} {d : Nat},
    takeFields fs got bs = .error d →
    ∃ pre f post vs rest, fs = pre ++ f :: post ∧ d = got.length + pre.length + 1 ∧
      takeFields pre got bs = .ok (vs, rest) ∧
      (rest.length < f.width ∨ f.legal vs (beValue (rest.take f.width)) = false)
  | [], _, _, _, h => by cases h
  | f :: fs, got, bs, d, h => by
    rw [takeFields] at h
    split_ifs at h with hlen hlegal
    · cases h
      exact ⟨[], f, fs, got, bs, rfl, rfl, rfl, .inl hlen⟩
    · obtain ⟨pre, g, post, vs, rest, rfl, rfl, hok, hbad⟩ := takeFields_error h
      refine ⟨f :: pre, g, post, vs, rest, rfl, by simp; omega, ?_, hbad⟩
      rw [takeFields, if_neg hlen, if_pos hlegal, hok]
    · cases h
      exact ⟨[], f, fs, got, bs, rfl, rfl, rfl, .inr (by simpa using hlegal)⟩

theorem takeFields_cons_error {f : Field} {fs : List Field} {got : List Nat} {bs : List Byte}
    (h : bs.length < f.width ∨ f.legal got (beValue (bs.take f.width)) = false) :
    takeFields (f :: fs) got bs = .error (got.length + 1) := by
  rw [takeFields]
  split_ifs with hlen hlegal
  · rfl
  · rw [hlegal] at h
    exact absurd (h.resolve_left hlen) nofun
  · rfl

theorem takeFields_cons_ok {f : Field} {fs : List Field} {got : List Nat} {v : Nat} {bs : List Byte}
    (hlt : v < 256 ^ f.width) (hlegal : f.legal got v = true) :
    takeFields (f :: fs) got (beBytes f.width v ++ bs) = takeFields fs (got ++ [v]) bs := by
  rw [takeFields, if_neg (by simp), List.take_left' (length_beBytes ..), beValue_beBytes_of_lt hlt, if_pos hlegal,
    List.drop_left' (length_beBytes ..)]

/-- The next field and the next argument's range agree on the values their bytes can carry. -/
structure FieldIs (f : Field) (got : List Nat) (a : ArgRange) : Prop where
  width : f.width = a.size
  legal : ∀ v, v < 256 ^ a.size → (f.legal got v = true ↔ a.admits v)
  fits : ∀ v, a.admits v → v < 256 ^ a.size

/-- The fields that check 3 takes follow the ranges along these values, as far as the values go and one argument further. -/
def fieldsFollow : List Field → List ArgRange → List Nat → List Nat → Prop
  | [], [], _, _ => True
  | f :: _, a :: _, got, [] =>
    f.width = a.size ∧ ∀ v, v < 256 ^ a.size → f.legal got v = true → a.admits v
  | f :: fs, a :: as, got, v :: vs =>
    f.width = a.size ∧ (a.admits v → v < 256 ^ a.size ∧ f.legal got v = true) ∧ fieldsFollow fs as (got ++ [v]) vs
  | [], _ :: _, _, _ => False
  | _ :: _, [], _, _ => False

theorem argsInRange_cons {a : ArgRange} {as : List ArgRange} {v : Nat} {vs : List Nat}
    (h : argsInRange (a :: as) (v :: vs)) : a.admits v ∧ argsInRange as vs := by
  refine ⟨?_, fun n w hn => ?_⟩
  · obtain ⟨b, hb, hv⟩ := h 0 v rfl
    cases hb
    exact hv
  · exact h (n + 1) w hn

theorem not_argsInRange_nil {v : Nat} {vs : List Nat} : ¬ argsInRange [] (v :: vs) := fun h => by
  obtain ⟨_, ha, -⟩ := h 0 v rfl
  cases ha

@[simp] theorem argPayload_cons (a : ArgRange) (as : List ArgRange) (v : Nat) (vs : List Nat) :
    argPayload (a :: as) (v :: vs) = beBytes a.size v ++ argPayload as vs := rfl

@[simp] theorem argPayload_nil (as : List ArgRange) : argPayload as [] = [] := by simp [argPayload]

/-- Arguments in range are taken, and the next argument not in range is refused with its number. -/
theorem takeFields_error_of_follow : ∀ {fs : List Field} {as : List ArgRange} {got vs : List Nat} {a : ArgRange}
    {tail : List Byte}, fieldsFollow fs as got vs → argsInRange as vs → as[vs.length]? = some a →
    (tail.length < a.size ∨ ¬ a.admits (beValue (tail.take a.size))) →
    takeFields fs got (argPayload as vs ++ tail) = .error (got.length + vs.length + 1)
  | [], [], _, vs, _, _, _, _, ha, _ => by simp at ha
  | f :: fs, a :: as, got, [], b, tail, hf, _, ha, hbad => by
    obtain ⟨hwidth, hlegal⟩ := hf
    obtain rfl : a = b := by simpa using ha
    rw [argPayload_nil, List.nil_append]
    refine takeFields_cons_error ?_
    rw [hwidth]
    by_cases hlen : tail.length < a.size
    · exact .inl hlen
    · have hlt := beValue_lt (tail.take a.size)
      rw [List.length_take_of_le (by omega)] at hlt
      exact .inr (by simpa using fun h => hbad.resolve_left hlen (hlegal _ hlt h))
  | f :: fs, a :: as, got, v :: vs, b, tail, hf, hin, ha, hbad => by
    obtain ⟨hwidth, hv, hrest⟩ := hf
    obtain ⟨hadmits, hin'⟩ := argsInRange_cons hin
    obtain ⟨hlt, hlegal⟩ := hv hadmits
    have ih := takeFields_error_of_follow (got := got ++ [v]) hrest hin' (by simpa using ha) hbad
    rw [argPayload_cons, List.append_assoc, ← hwidth, takeFields_cons_ok (hwidth ▸ hlt) hlegal, ih]
    simp
    omega
  | [], _ :: _, _, _, _, _, hf, _, _, _ => hf.elim
  | _ :: _, [], _, _, _, _, hf, _, _, _ => by cases ‹List Nat› <;> exact hf.elim

/-- Every argument in range is taken. -/
theorem takeFields_ok_of_follow : ∀ {fs : List Field} {as : List ArgRange} {got vs : List Nat} {tail : List Byte},
    fieldsFollow fs as got vs → argsInRange as vs → vs.length = as.length →
    takeFields fs got (argPayload as vs ++ tail) = .ok (got ++ vs, tail)
  | [], [], got, [], _, _, _, _ => by simp [takeFields]
  | f :: fs, a :: as, got, v :: vs, tail, hf, hin, hlen => by
    obtain ⟨hwidth, hv, hrest⟩ := hf
    obtain ⟨hadmits, hin'⟩ := argsInRange_cons hin
    obtain ⟨hlt, hlegal⟩ := hv hadmits
    have ih := takeFields_ok_of_follow (got := got ++ [v]) (tail := tail) hrest hin' (by simpa using hlen)
    rw [argPayload_cons, List.append_assoc, ← hwidth, takeFields_cons_ok (hwidth ▸ hlt) hlegal, ih]
    simp
  | [], _ :: _, _, _, _, hf, _, _ => hf.elim
  | _ :: _, [], _, [], _, hf, _, _ => hf.elim
  | _, [], _, _ :: _, _, _, hin, _ => (not_argsInRange_nil hin).elim
  | f :: fs, a :: as, _, [], _, _, _, hlen => by simp at hlen

theorem length_of_follow : ∀ {fs : List Field} {as : List ArgRange} {got vs : List Nat}, fieldsFollow fs as got vs →
    vs.length = as.length → fs.length = as.length
  | [], [], _, _, _, _ => rfl
  | f :: fs, a :: as, got, v :: vs, hf, hlen => by
    rw [List.length_cons, List.length_cons, length_of_follow hf.2.2 (by simpa using hlen)]
  | [], _ :: _, _, _, hf, _ => hf.elim
  | _ :: _, [], _, [], hf, _ => hf.elim
  | _ :: _, [], _, _ :: _, hf, _ => hf.elim
  | _ :: _, _ :: _, _, [], _, hlen => by simp at hlen

theorem checkPayload_error {fs : List Field} {n d : Nat} {payload : List Byte}
    (h : takeFields fs [] payload = .error d) : checkPayload fs n payload = .error d := by
  rw [checkPayload, h]

theorem checkPayload_tooLong {fs : List Field} {n : Nat} {payload : List Byte} {vs : List Nat} {b : Byte}
    {rest : List Byte} (h : takeFields fs [] payload = .ok (vs, b :: rest)) : checkPayload fs n payload = .error n := by
  rw [checkPayload, h]

theorem checkPayload_exact {fs : List Field} {n : Nat} {payload : List Byte} {vs : List Nat}
    (h : takeFields fs [] payload = .ok (vs, [])) : checkPayload fs n payload = .ok vs := by
  rw [checkPayload, h]

/-! ### The fields of the long requests and their ranges -/

theorem FieldIs.interval {w lo hi : Nat} {got : List Nat} (h : hi < 256 ^ w) : FieldIs (field w lo hi) got (.of w lo hi) where
  width := rfl
  legal v _ := by simp [field, ArgRange.of, ArgRange.admits]
  fits v hv := by
    simp only [ArgRange.of, ArgRange.admits, List.mem_singleton, exists_eq_left] at hv ⊢
    omega

theorem FieldIs.whole {w hi : Nat} {got : List Nat} (h : hi + 1 = 256 ^ w) : FieldIs (anyField w) got (.of w 0 hi) where
  width := rfl
  legal v hv := by
    simp only [anyField, ArgRange.of, ArgRange.admits, List.mem_singleton, exists_eq_left, true_iff] at hv ⊢
    omega
  fits v hv := by
    simp only [ArgRange.of, ArgRange.admits, List.mem_singleton, exists_eq_left] at hv ⊢
    omega

theorem isSome_stationPort {v : Nat} : (stationPort v).isSome = true ↔ 0x42 ≤ v ∧ v ≤ 0x46 := by
  constructor
  · intro h
    obtain ⟨q, hq⟩ := Option.isSome_iff_exists.1 h
    obtain ⟨rfl, hA⟩ := stationPort_eq_some hq
    revert hA
    cases q <;> decide
  · rintro ⟨h1, h2⟩
    interval_cases v <;> rfl

theorem FieldIs.station {got : List Nat} : FieldIs stationPortField got .stationPort where
  width := rfl
  legal v _ := by simp [stationPortField, ArgRange.stationPort, ArgRange.of, ArgRange.admits, isSome_stationPort]
  fits v hv := by
    simp only [ArgRange.stationPort, ArgRange.of, ArgRange.admits, List.mem_singleton, exists_eq_left] at hv ⊢
    omega

/-- Fields that follow ranges whatever the values are. -/
theorem fieldsFollow_of_forall₂ {fs : List Field} {as : List ArgRange}
    (h : List.Forall₂ (fun f a => ∀ got, FieldIs f got a) fs as) {got vs : List Nat} (hin : argsInRange as vs) :
    fieldsFollow fs as got vs := by
  induction h generalizing got vs with
  | nil =>
    cases vs with
    | nil => trivial
    | cons v vs => exact (not_argsInRange_nil hin).elim
  | @cons f a fs as hfa _ ih =>
    have hf := hfa got
    cases vs with
    | nil => exact ⟨hf.width, fun v hv => (hf.legal v hv).1⟩
    | cons v vs =>
      have hin' := (argsInRange_cons hin).2
      exact ⟨hf.width, fun hv => ⟨hf.fits v hv, (hf.legal v (hf.fits v hv)).2 hv⟩, ih hin'⟩

/-- The fields of one argument, and then those that follow, for each value it may have. -/
theorem fieldsFollow_cons {f : Field} {fs : List Field} {a : ArgRange} {as : List ArgRange} {got vs : List Nat}
    (hf : FieldIs f got a) (hrest : ∀ v ws, vs = v :: ws → fieldsFollow fs as (got ++ [v]) ws) :
    fieldsFollow (f :: fs) (a :: as) got vs := by
  cases vs with
  | nil => exact ⟨hf.width, fun v hv => (hf.legal v hv).1⟩
  | cons v vs => exact ⟨hf.width, fun hv => ⟨hf.fits v hv, (hf.legal v (hf.fits v hv)).2 hv⟩, hrest v vs rfl⟩

theorem forall₂_stepsFields (n : Nat) :
    List.Forall₂ (fun f a => ∀ got, FieldIs f got a) (stepsFields n) (List.replicate n ArgRange.step).flatten := by
  induction n with
  | zero => exact .nil
  | succ n ih =>
    exact .cons (fun _ => .interval (by decide)) (.cons (fun _ => .interval (by decide)) (.cons (fun _ => .interval (by decide))
      (.cons (fun _ => .interval (by decide)) (.cons (fun _ => .interval (by decide)) ih))))

theorem forall₂_levels (n : Nat) :
    List.Forall₂ (fun f a => ∀ got, FieldIs f got a) (List.replicate n (field 1 0 7)) (List.replicate n (.of 1 0 7)) := by
  induction n with
  | zero => exact .nil
  | succ n ih => exact .cons (fun _ => .interval (by decide)) ih

/-- The fields that check 3 takes from the payload of a long request whose rule gives its arguments' ranges. -/
def longFields (r : ReqName) (payload : List Byte) : List Field :=
  match r with
  | .readRecords => readRecordsFields
  | .defineProduct => defineProductFields
  | .setMatrixRow => setMatrixRowFields
  | .defineProgram => defineProgramFields payload.length (programCount payload)
  | .setClassLimit => setClassLimitFields
  | .setPortRole => setPortRoleFields
  | .configureLine => configureLineFields
  | .setProbeCalibration => setProbeCalibrationFields
  | .book => bookFields
  | .stepStart => stepStartFields
  | .washSample => washSampleFields
  | .inspectResult => inspectResultFields
  | .fillBegin => fillBeginFields
  | .fillVolume => fillCountFields
  | .fillEnd => fillCountFields
  | _ => addressFields

/-- The detail for a payload that goes on after the last argument (R33, R165). -/
def longTail (r : ReqName) (payload : List Byte) : Nat :=
  if r = .defineProgram then 2 else (longFields r payload).length + 1

theorem readCompartment_decided {tag index : Nat} : Decided s p (readCompartment tag index s) :=
  .withComp fun f _ => .short (length_recordBytes_le f)

theorem setMatrixRow_decided {row : ClassNo} {levels : List Nat} : Decided s p (setMatrixRow row levels s) := .ok rfl (by simp)

theorem setClassLimit_decided {cls : ClassNo} {limit : ClassLimit} : Decided s p (setClassLimit cls limit s) :=
  .ok rfl (by simp)

theorem defineProgram_decided {level : Nat} {steps : List WashStep} : Decided s p (defineProgram level steps s) :=
  .ok rfl (by simp)

theorem setProbeCalibration_decided {scale : Nat} {offset : Int} : Decided s p (setProbeCalibration scale offset s) :=
  .ok rfl (by simp [signedBytes])

/-- The owner of a long request holds its payload against the request's fields, and does not answer with RANGE after that. -/
theorem State.owned_long {vs : List Nat} {as : List ArgRange} (hr : r.ranges vs = some as) (s : State) (p : Port)
    (payload : List Byte) :
    ∃ act : List Nat → State × Answer, (∀ ws, Decided s p (act ws)) ∧
      s.owned r p payload = withArgs (checkPayload (longFields r payload) (longTail r payload) payload) s act := by
  cases r with
  | readCompartment => exact ⟨_, fun _ => readCompartment_decided, rfl⟩
  | readRecords => exact ⟨_, fun _ => readRecords_decided, rfl⟩
  | defineProduct => exact ⟨_, fun _ => defineProduct_decided, rfl⟩
  | setMatrixRow =>
    refine ⟨_, fun ws => ?_, rfl⟩
    exact setMatrixRow_decided
  | defineProgram =>
    refine ⟨_, fun ws => ?_, rfl⟩
    exact defineProgram_decided
  | setClassLimit =>
    refine ⟨_, fun ws => ?_, rfl⟩
    exact setClassLimit_decided
  | setPortRole => exact ⟨_, fun _ => setPortRole_decided, rfl⟩
  | configureLine => exact ⟨_, fun _ => configureLine_decided, rfl⟩
  | setProbeCalibration =>
    refine ⟨_, fun ws => ?_, rfl⟩
    exact setProbeCalibration_decided
  | book => exact ⟨_, fun _ => book_decided, rfl⟩
  | revoke => exact ⟨_, fun _ => revoke_decided, rfl⟩
  | unblock => exact ⟨_, fun _ => unblock_decided, rfl⟩
  | ackIncident => exact ⟨_, fun _ => ackIncident_decided, rfl⟩
  | stepStart => exact ⟨_, fun _ => stepStart_decided, rfl⟩
  | washSample => exact ⟨_, fun _ => washSample_decided, rfl⟩
  | giveBack => exact ⟨_, fun _ => giveBack_decided, rfl⟩
  | inspectBegin => exact ⟨_, fun _ => inspectBegin_decided, rfl⟩
  | inspectResult => exact ⟨_, fun _ => inspectResult_decided, rfl⟩
  | inspectCancel => exact ⟨_, fun _ => inspectCancel_decided, rfl⟩
  | fillBegin => exact ⟨_, fun _ => fillBegin_decided, rfl⟩
  | fillVolume => exact ⟨_, fun _ => fillVolume_decided, rfl⟩
  | fillResume => exact ⟨_, fun _ => fillResume_decided, rfl⟩
  | fillEnd => exact ⟨_, fun _ => fillEnd_decided, rfl⟩
  | _ => cases hr

theorem isSome_roleOfCode {v : Nat} : (roleOfCode v).isSome = true ↔ v = 0 ∨ 2 ≤ v ∧ v ≤ 4 := by
  constructor
  · intro h
    by_contra hv
    have : roleOfCode v = none := by
      unfold roleOfCode
      split <;> simp_all
    simp [this] at h
  · rintro (rfl | ⟨h2, h4⟩)
    · rfl
    · interval_cases v <;> rfl

theorem roleOfCode_eq_wash {v : Nat} : roleOfCode v = some .wash ↔ v = 2 := by
  constructor
  · intro h
    unfold roleOfCode at h
    split at h <;> simp_all
  · rintro rfl
    rfl

/-- The numbers that suit a function code as its argument (R152). -/
theorem instanceSuits_iff {code v : Nat} (hcode : code ≤ 6) :
    instanceSuits code v = true ↔ (ArgRange.instanceOf code).admits v := by
  interval_cases code <;>
    simp [instanceSuits, ArgRange.instanceOf, ArgRange.of, ArgRange.stationPort, ArgRange.admits, isSome_stationPort]

theorem setPortRole_follow {vs : List Nat} {as : List ArgRange} (hr : ReqName.ranges .setPortRole vs = some as) :
    fieldsFollow setPortRoleFields as [] vs := by
  obtain rfl := Option.some.inj hr
  refine fieldsFollow_cons .station ?_
  rintro port ws rfl
  refine fieldsFollow_cons ⟨rfl, fun v _ => ?_, fun v hv => ?_⟩ ?_
  · simp [isSome_roleOfCode, ArgRange.admits]
  · simp only [ArgRange.admits, List.mem_cons, List.not_mem_nil, or_false, exists_eq_or_imp, exists_eq_left] at hv ⊢
    omega
  · rintro role us rfl
    refine fieldsFollow_cons ⟨?_, fun v _ => ?_, fun v hv => ?_⟩ fun _ _ _ => trivial
    · simp only [List.getD_cons_succ, List.getD_cons_zero, ArgRange.capsOf]
      split_ifs <;> rfl
    · simp only [List.getD_cons_succ, List.getD_cons_zero, ArgRange.capsOf, arg, List.nil_append, List.cons_append]
      by_cases hw : role = 2
      · simp [hw, roleOfCode_eq_wash, ArgRange.of, ArgRange.admits]
      · simp [hw, roleOfCode_eq_wash, ArgRange.of, ArgRange.admits]
        omega
    · simp only [List.getD_cons_succ, List.getD_cons_zero, ArgRange.capsOf] at hv ⊢
      split_ifs at hv ⊢ <;>
        simp only [ArgRange.of, ArgRange.admits, List.mem_singleton, exists_eq_left] at hv ⊢ <;> omega

end Sys2Proof.Machine
end

section
/-! PROOF. The check chain: the first three checks, the address and the holder (R13, R159, R162, R163, R165, R166). -/

namespace Sys2Proof.Machine

variable {s : State} {p : Port} {r : ReqName} {u : State} {a : Answer}

/-! ### The fields of each long request follow its ranges -/

theorem fieldIs_depth {got : List Nat} :
    FieldIs { width := 1, legal := fun _ v => v == 0 || v == 2 || v == 4 || v == 8 } got
      ⟨1, [(0, 0), (2, 2), (4, 4), (8, 8)]⟩ where
  width := rfl
  legal v _ := by
    simp [ArgRange.admits]
    omega
  fits v hv := by
    simp only [ArgRange.admits, List.mem_cons, List.not_mem_nil, or_false, exists_eq_or_imp, exists_eq_left] at hv ⊢
    omega

theorem fieldIs_offset {got : List Nat} :
    FieldIs { width := 2, legal := fun _ v => -2000 ≤ signedValue v && signedValue v ≤ 2000 } got
      ⟨2, [(0, 2000), (63536, 65535)]⟩ where
  width := rfl
  legal v hv := by
    simp only [ArgRange.admits, List.mem_cons, List.not_mem_nil, or_false, exists_eq_or_imp, exists_eq_left,
      Bool.and_eq_true, decide_eq_true_iff] at hv ⊢
    unfold signedValue
    split_ifs <;> omega
  fits v hv := by
    simp only [ArgRange.admits, List.mem_cons, List.not_mem_nil, or_false, exists_eq_or_imp, exists_eq_left] at hv ⊢
    omega

theorem instanceOf_size (code : Nat) : (ArgRange.instanceOf code).size = 1 := by
  unfold ArgRange.instanceOf
  split_ifs <;> rfl

theorem instanceOf_fits {code v : Nat} (h : (ArgRange.instanceOf code).admits v) : v < 256 := by
  unfold ArgRange.instanceOf at h
  split_ifs at h <;>
    simp only [ArgRange.of, ArgRange.stationPort, ArgRange.admits, List.mem_singleton, exists_eq_left] at h <;> omega

theorem configureLine_follow {vs : List Nat} {as : List ArgRange} (hr : ReqName.ranges .configureLine vs = some as)
    (hin : argsInRange as vs) : fieldsFollow configureLineFields as [] vs := by
  obtain rfl := Option.some.inj hr
  refine fieldsFollow_cons (.interval (by decide)) ?_
  rintro line ws rfl
  refine fieldsFollow_cons (.interval (by decide)) ?_
  rintro mode ws rfl
  refine fieldsFollow_cons (.interval (by decide)) ?_
  rintro pol ws rfl
  refine fieldsFollow_cons fieldIs_depth ?_
  rintro depth ws rfl
  refine fieldsFollow_cons (.interval (by decide)) ?_
  rintro code ws rfl
  have hcode : code ≤ 6 := by
    obtain ⟨b, hb, hv⟩ := hin 4 code rfl
    cases hb
    simpa [ArgRange.of, ArgRange.admits] using hv
  refine fieldsFollow_cons ⟨(instanceOf_size _).symm, fun v _ => instanceSuits_iff hcode, fun v hv => ?_⟩ fun _ _ _ => trivial
  rw [instanceOf_size]
  exact instanceOf_fits hv

/-- The step count that a DEFINE PROGRAM payload carries stands after the level. -/
theorem programCount_eq {level n : Nat} {bs : List Byte} (hn : n < 256) :
    programCount (beBytes 1 level ++ (beBytes 1 n ++ bs)) = n := by
  simp [programCount, beBytes, Nat.mod_eq_of_lt hn]

/-- DEFINE PROGRAM holds the payload length against the step count at the second argument (R33). -/
theorem defineProgram_follow {vs : List Nat} {as : List ArgRange} (hr : ReqName.ranges .defineProgram vs = some as)
    {payload : List Byte} (hlen : 2 ≤ vs.length → payload.length = 2 + 9 * vs.getD 1 0 ∧ programCount payload = vs.getD 1 0)
    (hin : argsInRange as vs) :
    fieldsFollow (defineProgramFields payload.length (programCount payload)) as [] vs := by
  obtain rfl := Option.some.inj hr
  refine fieldsFollow_cons (.interval (by decide)) ?_
  rintro level ws rfl
  match ws with
  | [] =>
    refine ⟨rfl, fun v _ hv => ?_⟩
    simp only [Bool.and_eq_true, decide_eq_true_eq] at hv
    simpa [ArgRange.of, ArgRange.admits] using hv.1
  | n :: us =>
    obtain ⟨hpayload, hcount⟩ := hlen (by simp)
    simp only [List.getD_cons_succ, List.getD_cons_zero] at hpayload hcount
    refine ⟨rfl, fun hv => ?_, ?_⟩
    · simp only [ArgRange.of, ArgRange.admits, List.mem_singleton, exists_eq_left] at hv
      exact ⟨by simp only [ArgRange.of]; omega, by simp [hv, hpayload]⟩
    · rw [hcount]
      exact fieldsFollow_of_forall₂ (forall₂_stepsFields n) (argsInRange_cons (argsInRange_cons hin).2).2

/-- The fields that check 3 takes follow the ranges that the request's rule states. -/
theorem longFields_follow {vs : List Nat} {as : List ArgRange} (hr : r.ranges vs = some as) (hin : argsInRange as vs)
    {payload : List Byte} (hprog : r = .defineProgram → 2 ≤ vs.length →
      payload.length = 2 + 9 * vs.getD 1 0 ∧ programCount payload = vs.getD 1 0) :
    fieldsFollow (longFields r payload) as [] vs := by
  have hall : ∀ {as'}, r.ranges vs = some as' →
      List.Forall₂ (fun f a => ∀ got, FieldIs f got a) (longFields r payload) as' →
      fieldsFollow (longFields r payload) as [] vs := fun h hf =>
    Option.some.inj (h.symm.trans hr) ▸ fieldsFollow_of_forall₂ hf (Option.some.inj (hr.symm.trans h) ▸ hin)
  have hi : ∀ {w lo hi : Nat}, hi < 256 ^ w → ∀ got, FieldIs (field w lo hi) got (.of w lo hi) := fun h _ => .interval h
  have hw : ∀ {w hi : Nat}, hi + 1 = 256 ^ w → ∀ got, FieldIs (anyField w) got (.of w 0 hi) := fun h _ => .whole h
  have haddress : ∀ {fs : List Field} {as' : List ArgRange}, List.Forall₂ (fun f a => ∀ got, FieldIs f got a) fs as' →
      List.Forall₂ (fun f a => ∀ got, FieldIs f got a) (addressFields ++ fs) (ArgRange.address ++ as') := fun h =>
    .cons (hi (by decide)) (.cons (hi (by decide)) h)
  cases r with
  | readRecords => exact hall rfl (.cons (hi (by decide)) (.cons (hi (by decide)) (.cons (hi (by decide)) .nil)))
  | defineProduct =>
    exact hall rfl (.cons (hi (by decide)) (.cons (hi (by decide)) (.cons (hi (by decide)) (.cons (hi (by decide))
      (.cons (hi (by decide)) .nil)))))
  | setMatrixRow => exact hall rfl (.cons (hi (by decide)) (forall₂_levels 16))
  | defineProgram => exact defineProgram_follow hr (hprog rfl) hin
  | setClassLimit => exact hall rfl (.cons (hi (by decide)) (.cons (hi (by decide)) (.cons (hi (by decide)) .nil)))
  | setPortRole => exact setPortRole_follow hr
  | configureLine => exact configureLine_follow hr hin
  | setProbeCalibration => exact hall rfl (.cons (hi (by decide)) (.cons (fun _ => fieldIs_offset) .nil))
  | book => exact hall rfl (haddress (.cons (hi (by decide)) (.cons (hi (by decide)) .nil)))
  | stepStart => exact hall rfl (haddress (.cons (hi (by decide)) .nil))
  | washSample =>
    exact hall rfl (haddress (.cons (hw rfl) (.cons (hw rfl) (.cons (hw rfl) (.cons (hi (by decide)) .nil)))))
  | inspectResult =>
    exact hall rfl (haddress (.cons (hi (by decide)) (.cons (hw rfl) (.cons (hi (by decide)) .nil))))
  | fillBegin =>
    exact hall rfl (haddress (.cons (hi (by decide)) (.cons (hi (by decide)) (.cons (hi (by decide)) .nil))))
  | fillVolume => exact hall rfl (haddress (.cons (hw rfl) .nil))
  | fillEnd => exact hall rfl (haddress (.cons (hw rfl) .nil))
  | readCompartment => exact hall rfl (haddress .nil)
  | revoke => exact hall rfl (haddress .nil)
  | unblock => exact hall rfl (haddress .nil)
  | ackIncident => exact hall rfl (haddress .nil)
  | giveBack => exact hall rfl (haddress .nil)
  | inspectBegin => exact hall rfl (haddress .nil)
  | inspectCancel => exact hall rfl (haddress .nil)
  | fillResume => exact hall rfl (haddress .nil)
  | _ => cases hr

/-! ### Check 3 of a long request -/

/-- A request that passes checks 1 and 2 is answered with what its owner makes of it. -/
theorem exec_of_owned {args : List Byte} (h : s.admits p r) (ho : s.owned r p args = (u, a)) :
    exec (r.command p args) s = .next (u.reply p r.code a) := by
  rw [exec_command_of_admits args h, ho]

theorem resultCode_range {x : Result} (h : BitVec.ofNat 8 (resultCode x) = 0x43#8) : x = .range := by
  revert h
  cases x <;> decide

/-- A request whose owner does not answer with RANGE is answered with another result. -/
theorem exec_not_range {args : List Byte} (h : s.admits p r) (ho : (s.owned r p args).2.result ≠ .range) :
    ∃ t ty result rest, exec (r.command p args) s = .next t ∧ (t.port p).rx = .replying ⟨ty, result :: rest⟩ ∧
      result ≠ 0x43 := by
  refine ⟨_, _, _, _, exec_command_of_admits args h, by rw [State.port_reply, if_pos rfl]; rfl, fun hx => ?_⟩
  exact ho (resultCode_range hx)

/-- Two arguments and the first two ranges of DEFINE PROGRAM. -/
theorem defineProgram_payload {level n : Nat} {us : List Nat} {as : List ArgRange} {tail : List Byte}
    (hr : ReqName.ranges .defineProgram (level :: n :: us) = some as) (hin : argsInRange as (level :: n :: us)) :
    (1 ≤ level ∧ level ≤ 6) ∧ (1 ≤ n ∧ n ≤ 6) ∧ ∃ bs, argPayload as (level :: n :: us) ++ tail =
      beBytes 1 level ++ (beBytes 1 n ++ bs) ∧ (us = [] → bs = tail) := by
  obtain rfl := Option.some.inj hr
  have hlevel := (argsInRange_cons hin).1
  have hn := (argsInRange_cons (argsInRange_cons hin).2).1
  simp only [ArgRange.of, ArgRange.admits, List.mem_singleton, exists_eq_left] at hlevel hn
  exact ⟨hlevel, hn, _, by simp only [argPayload_cons, List.cons_append, List.append_assoc]; rfl,
    fun h => by rw [h, argPayload_nil, List.nil_append]⟩

/-- A payload of arguments is as long as the sizes of their ranges. -/
theorem length_argPayload {as : List ArgRange} {vs : List Nat} (h : vs.length = as.length) :
    (argPayload as vs).length = (as.map (·.size)).sum := by
  induction as generalizing vs with
  | nil => simp [argPayload]
  | cons b bs ih =>
    match vs with
    | v :: vs => simp [ih (by simpa using h)]

theorem defineProgram_count {vs : List Nat} {as : List ArgRange} {tail : List Byte}
    (hr : ReqName.ranges .defineProgram vs = some as) (hin : argsInRange as vs) (h2 : 2 ≤ vs.length) :
    programCount (argPayload as vs ++ tail) = vs.getD 1 0 := by
  match vs with
  | level :: n :: us =>
    obtain ⟨-, hn, bs, hbytes, -⟩ := defineProgram_payload (tail := tail) hr hin
    rw [hbytes, programCount_eq (by omega)]
    rfl

/-- A DEFINE PROGRAM payload of the wrong length for its step count is refused with detail 2 (R33). -/
theorem defineProgram_wrong_length {level n : Nat} {as : List ArgRange} {tail : List Byte}
    (hr : ReqName.ranges .defineProgram [level, n] = some as) (hin : argsInRange as [level, n])
    (hlen : tail.length ≠ 9 * n) :
    takeFields (longFields .defineProgram (argPayload as [level, n] ++ tail)) [] (argPayload as [level, n] ++ tail) =
      .error 2 := by
  obtain ⟨hlevel, hn, bs, hbytes, hbs⟩ := defineProgram_payload (tail := tail) hr hin
  obtain rfl := hbs rfl
  rw [hbytes]
  refine (takeFields_cons_ok (f := field 1 1 6) (by simp only [field]; omega) (by simp [field, hlevel])).trans ?_
  refine takeFields_cons_error (.inr ?_)
  rw [List.take_left' (length_beBytes ..), beValue_beBytes_of_lt (w := 1) (by omega)]
  simp only [List.length_append, length_beBytes, Bool.and_eq_false_iff, beq_eq_false_iff_ne]
  omega

/-- Check 3 of every long request whose rule gives its arguments' ranges. -/
theorem State.checksArguments_of_admits (h : s.admits p r) : s.checksArguments r p := by
  intro vs as hr hin
  have hrefused : ∀ {payload : List Byte} {d : Nat},
      checkPayload (longFields r payload) (longTail r payload) payload = .error d →
      exec (r.command p payload) s = .next (s.reply p r.code ⟨.range, d, []⟩) := fun {payload d} hd => by
    obtain ⟨act, -, howned⟩ := State.owned_long hr s p payload
    exact exec_of_owned h (by rw [howned, hd]; rfl)
  refine ⟨fun b tail payload hpayload ha hbad hprog => ?_, fun tail hprog h2 hlen => ?_,
    fun hlen => ⟨fun tail htail hprog => ?_, ?_⟩⟩
  · subst hpayload
    have hfollow := longFields_follow (payload := argPayload as vs ++ tail) hr hin fun hp h2 =>
      ⟨hprog hp h2, by subst hp; exact defineProgram_count hr hin h2⟩
    exact hrefused (checkPayload_error (by simpa using takeFields_error_of_follow hfollow hin ha hbad))
  · subst hprog
    match vs with
    | [level, n] => exact hrefused (checkPayload_error (defineProgram_wrong_length hr hin hlen))
  · have hfollow := longFields_follow (payload := argPayload as vs ++ tail) hr hin fun hp => absurd hp hprog
    have hdetail : longTail r (argPayload as vs ++ tail) = as.length + 1 := by
      rw [longTail, if_neg hprog, length_of_follow hfollow hlen]
    match tail with
    | b :: rest =>
      rw [← hdetail]
      exact hrefused (checkPayload_tooLong (takeFields_ok_of_follow hfollow hin hlen))
  · have hfollow := longFields_follow (payload := argPayload as vs) hr hin fun hp h2 => by
      subst hp
      refine ⟨?_, by simpa using defineProgram_count (tail := []) hr hin h2⟩
      rw [length_argPayload hlen]
      obtain rfl := Option.some.inj hr
      simp only [List.cons_append, List.nil_append, List.map_cons, List.sum_cons, List.map_flatten, List.map_replicate,
        ArgRange.of, ArgRange.step, List.sum_flatten, List.sum_replicate, smul_eq_mul, List.map_nil, List.sum_nil]
      omega
    obtain ⟨act, hact, howned⟩ := State.owned_long hr s p (argPayload as vs)
    refine exec_not_range h ?_
    have hok := takeFields_ok_of_follow (tail := []) hfollow hin hlen
    rw [List.append_nil] at hok
    rw [howned, checkPayload_exact hok]
    exact (hact _).inRange

/-! ### REGISTER TANKER (R14, R184) -/

/-- The arguments of the compartments of REGISTER TANKER. -/
def pairArgs (cs : List (Nat × Nat)) : List (Nat × Nat) := cs.flatMap fun x => [(2, x.1), (2, x.2)]

@[simp] theorem pairArgs_cons (x : Nat × Nat) (cs : List (Nat × Nat)) :
    pairArgs (x :: cs) = (2, x.1) :: (2, x.2) :: pairArgs cs := rfl

theorem length_argBytes_pairArgs (cs : List (Nat × Nat)) : (argBytes (pairArgs cs)).length = 4 * cs.length := by
  induction cs with
  | nil => rfl
  | cons x cs ih =>
    simp only [pairArgs_cons, argBytes_cons, List.length_append, length_beBytes, ih, List.length_cons]
    omega

/-- One compartment's bytes, and then those of the others. -/
theorem compArgs_cons {n i : Nat} {x : Nat × Nat} {bs : List Byte} (h1 : x.1 ≤ 65535) (h2 : x.2 ≤ 65535) :
    compArgs (n + 1) i (argBytes [(2, x.1), (2, x.2)] ++ bs) =
      if x.1 < 500 ∨ 20000 < x.1 then .error i
      else if 9999 < x.2 ∧ x.2 ≠ 0xFFFF then .error i
      else (compArgs n (i + 1) bs).map (x :: ·) := by
  have hbytes : argBytes [(2, x.1), (2, x.2)] ++ bs = beBytes 2 x.1 ++ (beBytes 2 x.2 ++ bs) := by simp
  have htake : beValue ((beBytes 2 x.1 ++ (beBytes 2 x.2 ++ bs)).take 2) = x.1 := by
    rw [List.take_left' (length_beBytes ..), beValue_beBytes_of_lt (by omega)]
  have hdrop : beValue (((beBytes 2 x.1 ++ (beBytes 2 x.2 ++ bs)).drop 2).take 2) = x.2 := by
    rw [List.drop_left' (length_beBytes ..), List.take_left' (length_beBytes ..), beValue_beBytes_of_lt (by omega)]
  have hrest : (beBytes 2 x.1 ++ (beBytes 2 x.2 ++ bs)).drop 4 = bs := by simp [← List.append_assoc]
  rw [hbytes, compArgs, htake, hdrop, hrest]
  cases compArgs n (i + 1) bs <;> rfl

theorem compArgs_cons_legal {n i : Nat} {x : Nat × Nat} {bs : List Byte} (h : tankerPairLegal x) :
    compArgs (n + 1) i (argBytes [(2, x.1), (2, x.2)] ++ bs) = (compArgs n (i + 1) bs).map (x :: ·) := by
  obtain ⟨⟨h500, h20000⟩, hlast⟩ := h
  rw [compArgs_cons (by omega) (by omega), if_neg (by omega), if_neg (by omega)]

theorem compArgs_legal {cs : List (Nat × Nat)} {i : Nat} (h : ∀ x ∈ cs, tankerPairLegal x) :
    compArgs cs.length i (argBytes (pairArgs cs)) = .ok cs := by
  induction cs generalizing i with
  | nil => rfl
  | cons x cs ih =>
    have hx := compArgs_cons_legal (n := cs.length) (i := i) (bs := argBytes (pairArgs cs)) (h x List.mem_cons_self)
    simp only [argBytes_cons, argBytes_nil, List.append_nil, List.append_assoc] at hx
    rw [List.length_cons, pairArgs_cons, argBytes_cons, argBytes_cons, hx, ih fun y hy => h y (List.mem_cons_of_mem _ hy)]
    rfl

theorem compArgs_illegal {pre : List (Nat × Nat)} {x : Nat × Nat} {post : List (Nat × Nat)} {i : Nat}
    (hpre : ∀ y ∈ pre, tankerPairLegal y) (hx : ¬ tankerPairLegal x) (h1 : x.1 ≤ 65535) (h2 : x.2 ≤ 65535) :
    compArgs (pre ++ x :: post).length i (argBytes (pairArgs (pre ++ x :: post))) = .error (i + pre.length) := by
  induction pre generalizing i with
  | nil =>
    have hcons := compArgs_cons (n := post.length) (i := i) (bs := argBytes (pairArgs post)) h1 h2
    simp only [argBytes_cons, argBytes_nil, List.append_nil, List.append_assoc] at hcons
    rw [List.nil_append, List.length_cons, pairArgs_cons, argBytes_cons, argBytes_cons, hcons]
    split_ifs with hcapacity hlast
    · rfl
    · rfl
    · exact absurd ⟨by omega, by omega⟩ hx
  | cons y pre ih =>
    have hy := compArgs_cons_legal (n := (pre ++ x :: post).length) (i := i) (bs := argBytes (pairArgs (pre ++ x :: post)))
      (hpre y List.mem_cons_self)
    simp only [argBytes_cons, argBytes_nil, List.append_nil, List.append_assoc] at hy
    rw [List.cons_append, List.length_cons, pairArgs_cons, argBytes_cons, argBytes_cons, hy,
      ih fun z hz => hpre z (List.mem_cons_of_mem _ hz)]
    exact congrArg Except.error (by rw [List.length_cons]; omega)

/-- The payload of REGISTER TANKER in parts: a tag, a count, the compartments. -/
theorem registerArgs_eq {tag : Nat} {cs : List (Nat × Nat)} {payload : List Byte} (htag : 1 ≤ tag ∧ tag ≤ 65535)
    (hcs : 1 ≤ cs.length ∧ cs.length ≤ 6)
    (hpayload : payload = argBytes [(2, tag), (1, cs.length)] ++ argBytes (pairArgs cs)) :
    registerArgs payload = (compArgs cs.length 1 (argBytes (pairArgs cs))).map (tag, ·) := by
  have hbytes : payload = beBytes 2 tag ++ (beBytes 1 cs.length ++ argBytes (pairArgs cs)) := by simp [hpayload]
  have htake : beValue (payload.take 2) = tag := by
    rw [hbytes, List.take_left' (length_beBytes ..), beValue_beBytes_of_lt (by omega)]
  have hcount : (payload.getD 2 0).toNat = cs.length := by
    rw [hbytes]
    simp [beBytes]
    omega
  have hlen : payload.length = 3 + 4 * cs.length := by
    rw [hbytes]
    simp only [List.length_append, length_beBytes, length_argBytes_pairArgs]
    omega
  have hdrop : payload.drop 3 = argBytes (pairArgs cs) := by
    rw [hbytes]
    simp [← List.append_assoc]
  rw [registerArgs, htake, hcount, hlen, hdrop, if_neg (by omega), if_neg (by omega), if_neg (by omega),
    if_neg (by omega)]
  cases compArgs cs.length 1 (argBytes (pairArgs cs)) <;> rfl

theorem owned_registerTanker_error {payload : List Byte} {d : Nat} (h : registerArgs payload = .error d) :
    s.owned .registerTanker p payload = (s, refuse .range d) := by
  rw [State.owned, h]

theorem owned_registerTanker_ok {payload : List Byte} {tag : Nat} {cs : List (Nat × Nat)}
    (h : registerArgs payload = .ok (tag, cs)) : s.owned .registerTanker p payload = registerTanker tag cs s := by
  rw [State.owned, h]

/-- Settles O10. -/
theorem firstThreeChecks : Obligations.FirstThreeChecks := by
  refine ⟨fun i r p args s hi => ⟨fun hrole => ?_, fun hrole hp hdenied => ?_⟩, fun fs payload d h => ?_,
    fun r p s _ h => State.checksArguments_of_admits h, fun p s h => ⟨fun payload => ⟨fun hlen => ?_, fun hlen htag => ?_,
      fun hlen htag hcount => ?_⟩, fun tag cs payload h1 h2 h3 h4 hcs hpayload => ⟨?_, fun hlegal => ?_⟩⟩⟩
  · rw [exec_request s hi, State.carryOut_eq, State.serve_of_not_permitted _ hrole]
    rfl
  · have hdenies : s.denies p r = true := by simp [State.denies, hp, hdenied]
    rw [exec_request s hi, State.carryOut_eq, State.serve_of_denied _ hrole hdenies]
    rfl
  · unfold checkLong checkPayload at h
    split at h
    next d' hd =>
      cases h
      obtain ⟨pre, f, post, vs, rest, hfs, hd', hok, hbad⟩ := takeFields_error hd
      exact .inl ⟨pre, f, post, vs, rest, hfs, by simpa using hd', hok, hbad⟩
    next => cases h
    next vs b rest hok =>
      cases h
      exact .inr ⟨rfl, vs, b, rest, hok⟩
  · exact exec_of_owned (r := .registerTanker) h (owned_registerTanker_error (by rw [registerArgs, if_pos hlen]))
  · refine exec_of_owned (r := .registerTanker) h (owned_registerTanker_error ?_)
    rw [registerArgs, if_neg (by omega), if_pos htag]
  · refine exec_of_owned (r := .registerTanker) h (owned_registerTanker_error ?_)
    rw [registerArgs, if_neg (by omega), if_neg htag]
    split_ifs with h1 h2
    · rfl
    · rfl
    · omega
  · rintro pre x post rfl hpre hx
    rw [argBytes_append] at hpayload
    have hmem := hcs x (by simp)
    refine exec_of_owned (r := .registerTanker) h (owned_registerTanker_error ?_)
    rw [registerArgs_eq ⟨h1, h2⟩ ⟨h3, h4⟩ hpayload, compArgs_illegal hpre hx hmem.1 hmem.2, Nat.add_comm]
    rfl
  · rw [argBytes_append] at hpayload
    refine exec_not_range (r := .registerTanker) h ?_
    rw [owned_registerTanker_ok (by rw [registerArgs_eq ⟨h1, h2⟩ ⟨h3, h4⟩ hpayload, compArgs_legal hlegal]; rfl)]
    exact (registerTanker_decided (p := p)).inRange

/-! ### The address and the holder (R13, R165, R166) -/

theorem ranges_of_addressed (hr : r.addressed = true) :
    ∃ more, ∀ vs, r.ranges vs = some (ArgRange.of 2 1 65535 :: ArgRange.of 1 1 6 :: more) := by
  cases r with
  | book | revoke | unblock | ackIncident | readCompartment | stepStart | washSample | giveBack | inspectBegin
  | inspectResult | inspectCancel | fillBegin | fillVolume | fillResume | fillEnd => exact ⟨_, fun _ => rfl⟩
  | _ => cases hr

theorem not_admits_of {w lo hi v : Nat} (h : v < lo ∨ hi < v) : ¬ (ArgRange.of w lo hi).admits v := by
  simp only [ArgRange.of, ArgRange.admits, List.mem_singleton, exists_eq_left]
  omega

theorem admits_of {w lo hi v : Nat} (h1 : lo ≤ v) (h2 : v ≤ hi) : (ArgRange.of w lo hi).admits v := by
  simp only [ArgRange.of, ArgRange.admits, List.mem_singleton, exists_eq_left]
  exact ⟨h1, h2⟩

theorem argsInRange_nil {as : List ArgRange} : argsInRange as [] := fun n v h => by simp at h

theorem argsInRange_singleton {a : ArgRange} {as : List ArgRange} {v : Nat} (h : a.admits v) : argsInRange (a :: as) [v] := by
  intro n w hn
  match n with
  | 0 => cases hn; exact ⟨a, rfl, h⟩
  | n + 1 => simp at hn

section Addressed

variable {tag index : Nat}

theorem owned_readCompartment (ht : 1 ≤ tag ∧ tag ≤ 65535) (hi : 1 ≤ index ∧ index ≤ 6) :
    s.owned .readCompartment p (addressBytes tag index) = readCompartment tag index s := by
  rw [State.owned, checkLong_addressFields ht hi]
  rfl

theorem owned_revoke (ht : 1 ≤ tag ∧ tag ≤ 65535) (hi : 1 ≤ index ∧ index ≤ 6) :
    s.owned .revoke p (addressBytes tag index) = revoke tag index s := by
  rw [State.owned, checkLong_addressFields ht hi]
  rfl

theorem owned_unblock (ht : 1 ≤ tag ∧ tag ≤ 65535) (hi : 1 ≤ index ∧ index ≤ 6) :
    s.owned .unblock p (addressBytes tag index) = unblock tag index s := by
  rw [State.owned, checkLong_addressFields ht hi]
  rfl

theorem owned_ackIncident (ht : 1 ≤ tag ∧ tag ≤ 65535) (hi : 1 ≤ index ∧ index ≤ 6) :
    s.owned .ackIncident p (addressBytes tag index) = ackIncident tag index s := by
  rw [State.owned, checkLong_addressFields ht hi]
  rfl

theorem owned_giveBack (ht : 1 ≤ tag ∧ tag ≤ 65535) (hi : 1 ≤ index ∧ index ≤ 6) :
    s.owned .giveBack p (addressBytes tag index) = giveBack p tag index s := by
  rw [State.owned, checkLong_addressFields ht hi]
  rfl

theorem owned_inspectBegin (ht : 1 ≤ tag ∧ tag ≤ 65535) (hi : 1 ≤ index ∧ index ≤ 6) :
    s.owned .inspectBegin p (addressBytes tag index) = inspectBegin p tag index s := by
  rw [State.owned, checkLong_addressFields ht hi]
  rfl

theorem owned_inspectCancel (ht : 1 ≤ tag ∧ tag ≤ 65535) (hi : 1 ≤ index ∧ index ≤ 6) :
    s.owned .inspectCancel p (addressBytes tag index) = inspectCancel p tag index s := by
  rw [State.owned, checkLong_addressFields ht hi]
  rfl

theorem owned_fillResume (ht : 1 ≤ tag ∧ tag ≤ 65535) (hi : 1 ≤ index ∧ index ≤ 6) :
    s.owned .fillResume p (addressBytes tag index) = fillResume p tag index s := by
  rw [State.owned, checkLong_addressFields ht hi]
  rfl

theorem owned_book {target pr : Nat} (ht : 1 ≤ tag ∧ tag ≤ 65535) (hi : 1 ≤ index ∧ index ≤ 6) (hg : target ≤ 9999)
    (hp : 1 ≤ pr ∧ pr ≤ 2) :
    s.owned .book p (addressBytes tag index ++ argBytes [(2, target), (1, pr)]) =
      book tag index target (priorityOfCode pr) s := by
  rw [State.owned, checkLong_bookFields ht hi hg hp]
  rfl

theorem owned_stepStart {step : Nat} (ht : 1 ≤ tag ∧ tag ≤ 65535) (hi : 1 ≤ index ∧ index ≤ 6)
    (hs : 1 ≤ step ∧ step ≤ 6) :
    s.owned .stepStart p (addressBytes tag index ++ argBytes [(1, step)]) = stepStart p tag index step s := by
  rw [State.owned, checkLong_stepStartFields ht hi hs]
  rfl

theorem owned_washSample {t temp flow medium : Nat} (ht : 1 ≤ tag ∧ tag ≤ 65535) (hi : 1 ≤ index ∧ index ≤ 6)
    (h1 : t ≤ 255) (h2 : temp ≤ 65535) (h3 : flow ≤ 65535) (h4 : 1 ≤ medium ∧ medium ≤ 6) :
    s.owned .washSample p (addressBytes tag index ++ argBytes [(1, t), (2, temp), (2, flow), (1, medium)]) =
      washSample p tag index ⟨t, temp, flow, mediumOfCode medium⟩ s := by
  rw [State.owned, checkLong_washSampleFields ht hi h1 h2 h3 h4]
  rfl

theorem owned_inspectResult {v cond ctag : Nat} (ht : 1 ≤ tag ∧ tag ≤ 65535) (hi : 1 ≤ index ∧ index ≤ 6)
    (hv : 1 ≤ v ∧ v ≤ 2) (hc : cond ≤ 65535) (hg : 1 ≤ ctag ∧ ctag ≤ 999999) :
    s.owned .inspectResult p (addressBytes tag index ++ argBytes [(1, v), (2, cond), (3, ctag)]) =
      inspectResult p tag index (v == 1) cond ctag s := by
  rw [State.owned, checkLong_inspectResultFields ht hi hv hc hg]
  rfl

theorem owned_fillBegin {arm product ctag : Nat} (ht : 1 ≤ tag ∧ tag ≤ 65535) (hi : 1 ≤ index ∧ index ≤ 6)
    (ha : 1 ≤ arm ∧ arm ≤ 4) (hp : 1 ≤ product ∧ product ≤ 9999) (hg : 1 ≤ ctag ∧ ctag ≤ 999999) :
    s.owned .fillBegin p (addressBytes tag index ++ argBytes [(1, arm), (2, product), (3, ctag)]) =
      fillBegin p tag index (armOfNumber arm) product ctag s := by
  rw [State.owned, checkLong_fillBeginFields ht hi ha hp hg]
  rfl

theorem owned_fillVolume {count : Nat} (ht : 1 ≤ tag ∧ tag ≤ 65535) (hi : 1 ≤ index ∧ index ≤ 6) (hc : count < 2 ^ 32) :
    s.owned .fillVolume p (addressBytes tag index ++ argBytes [(4, count)]) = fillVolume p tag index count s := by
  rw [State.owned, checkLong_fillCountFields ht hi hc]
  rfl

theorem owned_fillEnd {count : Nat} (ht : 1 ≤ tag ∧ tag ≤ 65535) (hi : 1 ≤ index ∧ index ≤ 6) (hc : count < 2 ^ 32) :
    s.owned .fillEnd p (addressBytes tag index ++ argBytes [(4, count)]) = fillEnd p tag index count s := by
  rw [State.owned, checkLong_fillCountFields ht hi hc]
  rfl

/-- The owner's work on a request is the search for its compartment, and then check 6 where the request has it. -/
structure Searches (s : State) (r : ReqName) (p : Port) (tag index : Nat) (x : State × Answer) : Prop where
  search : ∃ act : Found → State × Answer, x = s.withComp tag index act ∧
    (r.needsTheHold = true → ∀ f, ∃ y, act f = needsHold p s f.comp y) ∧
    (r.needsNobody = true → ∀ f, ∃ y, act f = needsNoHolder s f.comp y)

/-- An addressed request whose arguments are in range is the search for its compartment, and then check 6. -/
theorem State.owned_addressed {rest : List (Nat × Nat)} (hrest : r.restLegal rest = true) (ht : 1 ≤ tag ∧ tag ≤ 65535)
    (hi : 1 ≤ index ∧ index ≤ 6) :
    Searches s r p tag index (s.owned r p (addressBytes tag index ++ argBytes rest)) := by
  have hnil : addressBytes tag index ++ argBytes [] = addressBytes tag index := List.append_nil _
  unfold ReqName.restLegal at hrest
  split at hrest
  next target pr =>
    simp only [Bool.and_eq_true, decide_eq_true_eq] at hrest
    rw [owned_book ht hi hrest.1.1 ⟨hrest.1.2, hrest.2⟩]
    exact ⟨_, rfl, nofun, fun _ f => ⟨_, rfl⟩⟩
  next step =>
    simp only [Bool.and_eq_true, decide_eq_true_eq] at hrest
    rw [owned_stepStart ht hi hrest]
    exact ⟨_, rfl, fun _ f => ⟨_, rfl⟩, nofun⟩
  next t temp flow medium =>
    simp only [Bool.and_eq_true, decide_eq_true_eq] at hrest
    obtain ⟨⟨⟨⟨h1, h2⟩, h3⟩, h4⟩, h5⟩ := hrest
    rw [owned_washSample ht hi h1 h2 h3 ⟨h4, h5⟩]
    exact ⟨_, rfl, fun _ f => ⟨_, rfl⟩, nofun⟩
  next verdict cond ctag =>
    simp only [Bool.and_eq_true, decide_eq_true_eq] at hrest
    obtain ⟨⟨⟨⟨h1, h2⟩, h3⟩, h4⟩, h5⟩ := hrest
    rw [owned_inspectResult ht hi ⟨h1, h2⟩ h3 ⟨h4, h5⟩]
    exact ⟨_, rfl, fun _ f => ⟨_, rfl⟩, nofun⟩
  next arm product ctag =>
    simp only [Bool.and_eq_true, decide_eq_true_eq] at hrest
    obtain ⟨⟨⟨⟨⟨h1, h2⟩, h3⟩, h4⟩, h5⟩, h6⟩ := hrest
    rw [owned_fillBegin ht hi ⟨h1, h2⟩ ⟨h3, h4⟩ ⟨h5, h6⟩]
    exact ⟨_, rfl, nofun, fun _ f => ⟨_, rfl⟩⟩
  next count =>
    rw [owned_fillVolume ht hi (of_decide_eq_true hrest)]
    exact ⟨_, rfl, fun _ f => ⟨_, rfl⟩, nofun⟩
  next count =>
    rw [owned_fillEnd ht hi (of_decide_eq_true hrest)]
    exact ⟨_, rfl, fun _ f => ⟨_, rfl⟩, nofun⟩
  next => rw [hnil, owned_revoke ht hi]; exact ⟨_, rfl, nofun, nofun⟩
  next => rw [hnil, owned_unblock ht hi]; exact ⟨_, rfl, nofun, nofun⟩
  next => rw [hnil, owned_ackIncident ht hi]; exact ⟨_, rfl, nofun, nofun⟩
  next => rw [hnil, owned_readCompartment ht hi]; exact ⟨_, rfl, nofun, nofun⟩
  next => rw [hnil, owned_giveBack ht hi]; exact ⟨_, rfl, fun _ f => ⟨_, rfl⟩, nofun⟩
  next => rw [hnil, owned_inspectBegin ht hi]; exact ⟨_, rfl, nofun, fun _ f => ⟨_, rfl⟩⟩
  next => rw [hnil, owned_inspectCancel ht hi]; exact ⟨_, rfl, fun _ f => ⟨_, rfl⟩, nofun⟩
  next => rw [hnil, owned_fillResume ht hi]; exact ⟨_, rfl, fun _ f => ⟨_, rfl⟩, nofun⟩
  next => cases hrest

end Addressed

/-- Settles O11. -/
theorem addressChecked : Obligations.AddressChecked := by
  intro r p s hr h
  obtain ⟨more, hranges⟩ := ranges_of_addressed hr
  have hchecks := State.checksArguments_of_admits h
  have hprog : r ≠ .defineProgram := fun h => by subst h; cases hr
  refine ⟨hchecks, fun payload => ⟨fun hbad => ?_, fun hlen htag hbad => ?_⟩,
    fun tag index rest hrest h1 h2 h3 h4 htables => ⟨fun hnone => ?_, fun t k hk htag hcount => ?_⟩⟩
  · refine (hchecks [] _ (hranges []) argsInRange_nil).1 (.of 2 1 65535) payload payload rfl rfl ?_ fun h => absurd h hprog
    exact hbad.imp_right fun h0 => not_admits_of (.inl (by simp only [ArgRange.of]; omega))
  · have htake : (payload.take 2).length = 2 := by rw [List.length_take]; omega
    have hvalue := beValue_lt (payload.take 2)
    rw [htake] at hvalue
    have hsplit : payload = argPayload (ArgRange.of 2 1 65535 :: ArgRange.of 1 1 6 :: more) [beValue (payload.take 2)] ++
        payload.drop 2 := by
      have hback := beBytes_beValue (payload.take 2)
      rw [htake] at hback
      rw [argPayload_cons, argPayload_nil, List.append_nil]
      exact (by rw [hback, List.take_append_drop] : beBytes 2 (beValue (payload.take 2)) ++ payload.drop 2 = payload).symm
    refine (hchecks [beValue (payload.take 2)] _ (hranges _) (argsInRange_singleton (admits_of (by omega) (by omega)))).1
      (.of 1 1 6) (payload.drop 2) payload hsplit rfl ?_ fun h => absurd h hprog
    obtain hlen2 | hindex := hbad
    · exact .inl (by simp [ArgRange.of, hlen2])
    · match hdrop : payload.drop 2 with
      | [] => exact .inl (by simp [ArgRange.of])
      | b :: bs =>
        have hget : payload.getD 2 0 = b := by
          rw [← List.take_append_drop 2 payload, hdrop, List.getD_append_right _ _ _ _ (by omega), htake]
          rfl
        refine .inr (not_admits_of ?_)
        rw [hget] at hindex
        simp only [ArgRange.of, List.take_succ_cons, List.take_zero, beValue_one]
        omega
  · obtain ⟨act, howned, -, -⟩ := State.owned_addressed (s := s) (p := p) hrest ⟨h1, h2⟩ ⟨h3, h4⟩
    exact exec_of_owned h (howned.trans (State.withComp_of_no_tanker _ (State.findTanker_eq_none.2 hnone)))
  · obtain ⟨act, howned, -, -⟩ := State.owned_addressed (s := s) (p := p) hrest ⟨h1, h2⟩ ⟨h3, h4⟩
    have hfind := State.findTanker_of_tag htables hk htag
    exact exec_of_owned h (howned.trans (State.withComp_of_no_compartment _ hfind (State.find_eq_none hfind hcount)))

/-- Settles O12. -/
theorem holderChecked : Obligations.HolderChecked := by
  intro r p s tag index rest f hrest h ⟨htag, hindex, hfind⟩
  obtain ⟨act, howned, hhold, hnobody⟩ := State.owned_addressed (s := s) (p := p) hrest htag hindex
  have hact := howned.trans (State.withComp_of_find act hfind)
  refine ⟨fun hneeds hnone => ?_, fun hneeds q hq hne => ?_, fun hneeds q hq => ?_⟩
  · obtain ⟨x, hx⟩ := hhold hneeds f
    exact exec_of_owned h (hact.trans (hx.trans (by simp [needsHold, hnone]; rfl)))
  · obtain ⟨x, hx⟩ := hhold hneeds f
    exact exec_of_owned h (hact.trans (hx.trans (by simp [needsHold, hq, hne]; rfl)))
  · obtain ⟨x, hx⟩ := hnobody hneeds f
    exact exec_of_owned h (hact.trans (hx.trans (by simp [needsNoHolder, hq]; rfl)))

end Sys2Proof.Machine
end

section
/-! PROOF. The clock and the timers: an advance reaches every record, an expiry that is owed is taken once, SET TIME moves no
timer (R81 to R83, R103, R130 to R132). -/

namespace Sys2Proof.Machine

variable {s u : State} {j k : Slot} {c d : Comp} {p : Port}

/-! ### Which expiry an advance brings (R81, R82, R103) -/

theorem Comp.nextExpiry_active {b : Booking} {pl : Plan} {h : Port} (hst : c.st = .washing b pl h .active) :
    c.nextExpiry = if pl.current.maxActive ≤ pl.active + 1 then some .overrun
      else if 60 ≤ pl.silence + 1 then some .silence else none := by
  rw [Comp.nextExpiry, hst]
  rfl

theorem Comp.nextExpiry_release {b : Booking} {pl : Plan} {r : Release} (hst : c.st = .released b pl r) :
    c.nextExpiry = if !r.frozen && r.remaining ≤ 1 then some .release else none := by
  rw [Comp.nextExpiry, hst]

/-- A record that an expiry comes to runs a step, or counts down a release that is not frozen. -/
theorem Comp.timed_of_expiry (h : c.nextExpiry ≠ none) :
    (∃ b pl p, c.st = .washing b pl p .active) ∨ ∃ b pl r, c.st = .released b pl r ∧ r.frozen = false := by
  unfold Comp.nextExpiry at h
  split at h
  next b pl p hst => exact .inl ⟨b, pl, p, hst⟩
  next b pl r hst =>
    refine .inr ⟨b, pl, r, hst, ?_⟩
    split_ifs at h with hr
    · simp only [Bool.and_eq_true, Bool.not_eq_true', decide_eq_true_eq] at hr
      exact hr.1
    · exact absurd rfl h
  next => exact absurd rfl h

/-! ### Taking an owed advance -/

section Taken

variable {b : Booking} {pl : Plan} {h : Port} {r : Release}

/-- The silence expiry (R81). -/
theorem takeExpiry_silence (hst : c.st = .washing b pl h .active) (hmax : pl.active + 1 < pl.current.maxActive) :
    takeExpiry k c s = (s.setComp k { c with
      st := .washing b { pl with active := pl.active + 1, silence := pl.silence + 1 } h (.stalled .silence)
      advanceDue := false }).driveLatches := by
  rw [takeExpiry, hst]
  dsimp only
  rw [if_neg (Nat.not_le.2 hmax)]
  rfl

/-- The overrun that leaves the fault count below 3 (R82). -/
theorem takeExpiry_stall (hst : c.st = .washing b pl h .active) (hmax : pl.current.maxActive ≤ pl.active + 1)
    (hfaults : c.faults < 2) :
    takeExpiry k c s = (s.setComp k { c with
      faults := c.faults + 1
      st := .washing b { pl with active := pl.active + 1, silence := pl.silence + 1 } h (.stalled .overrun)
      advanceDue := false }).driveLatches := by
  rw [takeExpiry, hst]
  dsimp only
  rw [if_pos hmax, takeOverrun, if_neg (by simp only [Config.faultLimit]; omega)]
  rfl

/-- The overrun that brings the fault count to 3 (R83). -/
theorem takeExpiry_block (hst : c.st = .washing b pl h .active) (hmax : pl.current.maxActive ≤ pl.active + 1)
    (hfaults : 2 ≤ c.faults) :
    takeExpiry k c s = (s.setComp k (Comp.capture { c with
      faults := 3
      st := .blockedFaults b (some { pl with active := pl.active + 1, silence := 0, mismatch := 0 })
      advanceDue := false } ⟨.blocked, s.lastAdvance, some h, 0⟩)).driveLatches := by
  rw [takeExpiry, hst]
  dsimp only
  rw [if_pos hmax, takeOverrun, if_pos (by simp only [Config.faultLimit]; omega)]
  rfl

/-- The expiry of a release (R103). -/
theorem takeExpiry_release (hst : c.st = .released b pl r) :
    takeExpiry k c s = (s.setComp k (Comp.capture { c with st := .washed b pl, advanceDue := false }
      ⟨.releaseExpired, s.lastAdvance, none, 0⟩)).driveLatches := by
  rw [takeExpiry, hst]
  rfl

end Taken

/-- A record takes an expiry: its slot is written with a record that owes nothing, and the latches follow. -/
theorem takeExpiry_eq (h : c.nextExpiry ≠ none) (time : ClockValue) :
    ∃ d : Comp, (∀ (u : State) (k : Slot), u.lastAdvance = time → takeExpiry k c u = (u.setComp k d).driveLatches) ∧
      d.advanceDue = false := by
  obtain ⟨b, pl, q, hst⟩ | ⟨b, pl, r, hst, -⟩ := Comp.timed_of_expiry h
  · by_cases hmax : pl.current.maxActive ≤ pl.active + 1
    · by_cases hfaults : c.faults < 2
      · exact ⟨_, fun u k _ => takeExpiry_stall hst hmax hfaults, rfl⟩
      · exact ⟨_, fun u k htime => htime ▸ takeExpiry_block hst hmax (Nat.not_lt.1 hfaults), Comp.capture_advanceDue _⟩
    · exact ⟨_, fun u k _ => takeExpiry_silence hst (Nat.not_le.1 hmax), rfl⟩
  · exact ⟨_, fun u k htime => htime ▸ takeExpiry_release hst, Comp.capture_advanceDue _⟩

theorem settleOne_of_not_due (h : ∀ c, s.compAt k = some c → c.advanceDue = false) : settleOne s k = s := by
  unfold settleOne
  split
  next c hc => rw [h c hc, if_neg Bool.false_ne_true]
  next => rfl

/-- All that taking an owed advance can do, in any state that holds the same record: nothing; the expiry, after which the
latches follow; or the counting of the advance, which changes no demand. -/
theorem settleOne_cases (s : State) (k : Slot) :
    (∀ u : State, u.compAt k = s.compAt k → settleOne u k = u) ∨
    (∃ d : Comp, d.advanceDue = false ∧ ∀ u : State, u.compAt k = s.compAt k → u.lastAdvance = s.lastAdvance →
      settleOne u k = (u.setComp k d).driveLatches) ∨
    (∃ c d : Comp, d.advanceDue = false ∧ s.compAt k = some c ∧ c.drivesAs d ∧
      ∀ u : State, u.compAt k = s.compAt k → settleOne u k = u.setComp k d) := by
  cases hc : s.compAt k with
  | none => exact .inl fun u hu => settleOne_of_not_due fun c h => absurd (hu.symm.trans h) nofun
  | some c =>
    by_cases hdue : c.advanceDue = true
    · cases hx : c.nextExpiry with
      | some e =>
        obtain ⟨d, htake, hd⟩ := takeExpiry_eq (c := c) (by rw [hx]; exact nofun) s.lastAdvance
        refine .inr (.inl ⟨d, hd, fun u hu htime => ?_⟩)
        rw [settleOne, hu]
        dsimp only
        rw [if_pos hdue, hx]
        exact htake u k htime
      | none =>
        refine .inr (.inr ⟨c, c.counted.settled, rfl, rfl,
          Comp.drivesAs_trans c.drivesAs_counted c.counted.drivesAs_settled, fun u hu => ?_⟩)
        rw [settleOne, hu]
        dsimp only
        rw [if_pos hdue, hx]
    · refine .inl fun u hu => settleOne_of_not_due fun c' hc' => ?_
      cases hu.symm.trans hc'
      simpa using hdue

theorem compAt_settleOne_ne (h : j ≠ k) : (settleOne s k).compAt j = s.compAt j := by
  obtain hid | ⟨d, -, hset⟩ | ⟨c, d, -, -, -, hset⟩ := settleOne_cases s k
  · rw [hid s rfl]
  · rw [hset s rfl rfl, State.driveLatches_compAt, State.compAt_setComp, if_neg h]
  · rw [hset s rfl, State.compAt_setComp, if_neg h]

theorem compAt_driven_ne (h : j ≠ k) : (s.setComp k c).driveLatches.compAt j = s.compAt j :=
  (State.compAt_setComp s k j c).trans (if_neg h)

/-- Taking an owed advance leaves the clock and the ports. -/
theorem settleOne_frame (s : State) (k : Slot) :
    (settleOne s k).clock = s.clock ∧ (settleOne s k).lastAdvance = s.lastAdvance ∧ (settleOne s k).ports = s.ports := by
  obtain hid | ⟨d, -, hset⟩ | ⟨c, d, -, -, -, hset⟩ := settleOne_cases s k
  · rw [hid s rfl]
    exact ⟨rfl, rfl, rfl⟩
  · rw [hset s rfl rfl]
    exact ⟨rfl, rfl, rfl⟩
  · rw [hset s rfl]
    exact ⟨rfl, rfl, rfl⟩

/-- An advance is owed once. -/
theorem settleOne_settleOne (s : State) (k : Slot) : settleOne (settleOne s k) k = settleOne s k := by
  obtain hid | ⟨d, hd, hset⟩ | ⟨c, d, hd, -, -, hset⟩ := settleOne_cases s k
  · rw [hid s rfl, hid s rfl]
  · rw [hset s rfl rfl]
    refine settleOne_of_not_due fun x hx => ?_
    rw [State.driveLatches_compAt, State.compAt_setComp_self] at hx
    exact Option.some.inj hx ▸ hd
  · rw [hset s rfl]
    refine settleOne_of_not_due fun x hx => ?_
    rw [State.compAt_setComp_self] at hx
    exact Option.some.inj hx ▸ hd

/-! ### Records take what they owe in any order -/

theorem State.follow_congr {t : State} (h : ∀ f, t.demand f = s.demand f) : t.follow = s.follow := by
  funext x
  unfold State.follow
  simp only [h]

/-- A line that follows the demands twice stands at the later ones. -/
theorem State.follow_follow (s t : State) (x : Line) : t.follow (s.follow x) = t.follow x := by
  cases hf : x.func with
  | none => simp [State.follow, hf]
  | some f => cases f <;> simp [State.follow, hf, State.demand]

theorem State.setComp_comm (h : j ≠ k) (c d : Comp) : (s.setComp k c).setComp j d = (s.setComp j d).setComp k c := by
  have hv : k.val ≠ j.val := fun hv => h (Fin.ext hv.symm)
  exact congrArg (fun cs => ({ s with comps := cs } : State)) (Vector.set_comm _ _ hv)

/-- Latches driven before a record is written, and driven again after it, follow the later demands. -/
theorem State.driveLatches_setComp_driveLatches (s : State) (j : Slot) (d : Comp) :
    (s.driveLatches.setComp j d).driveLatches = (s.setComp j d).driveLatches := by
  have hfollow : (s.driveLatches.setComp j d).follow = (s.setComp j d).follow :=
    State.follow_congr (State.drivesAs_of_same fun _ => rfl).demand
  have hlines : (s.lines.map s.follow).map (s.driveLatches.setComp j d).follow = s.lines.map (s.setComp j d).follow := by
    rw [hfollow, Vector.map_map]
    exact congrArg (Vector.map · s.lines) (funext fun x => State.follow_follow ..)
  exact congrArg (fun ls => ({ s.setComp j d with lines := ls } : State)) hlines

/-- A record written after the latches are driven, where it changes no demand, may be written before. -/
theorem State.driveLatches_setComp (hc : s.compAt j = some c) (hd : c.drivesAs d) :
    s.driveLatches.setComp j d = (s.setComp j d).driveLatches := by
  have hfollow : (s.setComp j d).follow = s.follow :=
    State.follow_congr (State.drivesAs_of_set hc hd fun i => State.compAt_setComp s j i d).demand
  exact congrArg (fun f => ({ s.setComp j d with lines := s.lines.map f } : State)) hfollow.symm

/-- Two records take what they owe in either order. -/
theorem settleOne_comm (h : j ≠ k) : settleOne (settleOne s k) j = settleOne (settleOne s j) k := by
  have hkj : (settleOne s k).compAt j = s.compAt j := compAt_settleOne_ne h
  have hjk : (settleOne s j).compAt k = s.compAt k := compAt_settleOne_ne h.symm
  have htk := (settleOne_frame s k).2.1
  have htj := (settleOne_frame s j).2.1
  obtain hj | ⟨d, -, hj⟩ | ⟨e, d, -, he, hed, hj⟩ := settleOne_cases s j
  · rw [hj _ hkj, hj s rfl]
  · rw [hj _ hkj htk, hj s rfl rfl]
    obtain hk | ⟨c, -, hk⟩ | ⟨e, c, -, he, hec, hk⟩ := settleOne_cases s k
    · rw [hk s rfl, hk _ (compAt_driven_ne h.symm)]
    · rw [hk s rfl rfl, hk _ (compAt_driven_ne h.symm) rfl, State.driveLatches_setComp_driveLatches,
        State.driveLatches_setComp_driveLatches, State.setComp_comm h]
    · rw [hk s rfl, hk _ (compAt_driven_ne h.symm),
        State.driveLatches_setComp ((State.compAt_setComp ..).trans ((if_neg h.symm).trans he)) hec, State.setComp_comm h]
  · rw [hj _ hkj, hj s rfl]
    obtain hk | ⟨c, -, hk⟩ | ⟨e', c, -, he', hec, hk⟩ := settleOne_cases s k
    · rw [hk s rfl, hk _ ((State.compAt_setComp ..).trans (if_neg h.symm))]
    · rw [hk s rfl rfl, hk _ ((State.compAt_setComp ..).trans (if_neg h.symm)) rfl,
        State.driveLatches_setComp ((State.compAt_setComp ..).trans ((if_neg h).trans he)) hed, State.setComp_comm h]
    · rw [hk s rfl, hk _ ((State.compAt_setComp ..).trans (if_neg h.symm)), State.setComp_comm h]

/-- A record that takes what it owes before an advance takes it no second time (R131). -/
theorem settleAll_settleOne (s : State) (k : Slot) : (settleOne s k).settleAll = s.settleAll := by
  have hfold : ∀ (ks : List Slot) (u : State), k ∈ ks → ks.foldl settleOne (settleOne u k) = ks.foldl settleOne u := by
    intro ks
    induction ks with
    | nil => exact fun u hk => absurd hk List.not_mem_nil
    | cons j ks ih =>
      intro u hk
      rw [List.foldl_cons, List.foldl_cons]
      by_cases hj : j = k
      · rw [hj, settleOne_settleOne]
      · rw [settleOne_comm hj, ih _ ((List.mem_cons.1 hk).resolve_left fun h => hj h.symm)]
  exact hfold _ s (List.mem_finRange k)

/-- A record that owes nothing stands as it stood when the others have taken what they owe. -/
theorem compAt_settleAll (h : ∀ c, s.compAt k = some c → c.advanceDue = false) :
    s.settleAll.compAt k = s.compAt k := by
  have hfold : ∀ (ks : List Slot) (u : State), u.compAt k = s.compAt k → (ks.foldl settleOne u).compAt k = s.compAt k := by
    intro ks
    induction ks with
    | nil => exact fun u hu => hu
    | cons j ks ih =>
      refine fun u hu => ih _ ?_
      by_cases hj : k = j
      · subst hj
        rw [settleOne_of_not_due fun c hc => h c (hu.symm.trans hc), hu]
      · rw [compAt_settleOne_ne hj, hu]
  exact hfold _ s rfl

theorem settleAll_frame (s : State) : s.settleAll.clock = s.clock ∧ s.settleAll.ports = s.ports := by
  have hfold : ∀ (ks : List Slot) (u : State),
      (ks.foldl settleOne u).clock = u.clock ∧ (ks.foldl settleOne u).ports = u.ports := by
    intro ks
    induction ks with
    | nil => exact fun u => ⟨rfl, rfl⟩
    | cons j ks ih =>
      intro u
      obtain ⟨hclock, -, hports⟩ := settleOne_frame u j
      exact ⟨(ih _).1.trans hclock, (ih _).2.trans hports⟩
  exact hfold _ s

theorem settleAll_of_not_due (h : ∀ k c, s.compAt k = some c → c.advanceDue = false) : s.settleAll = s := by
  have hfold : ∀ ks : List Slot, ks.foldl settleOne s = s := by
    intro ks
    induction ks with
    | nil => rfl
    | cons j ks ih => rw [List.foldl_cons, settleOne_of_not_due (h j), ih]
  exact hfold _

end Sys2Proof.Machine
end

section
/-! PROOF. The advance, the expiries and SET TIME, clause by clause (R81 to R83, R103, R130 to R132). -/

namespace Sys2Proof.Machine

variable {s u : State} {k : Slot} {c d : Comp} {p : Port} {b : Booking} {pl : Plan} {h : Port} {r : Release}

/-! ### What an advance makes of one record (R80, R102, R131) -/

theorem Comp.reached_of_none (hx : c.nextExpiry = none) : c.reached = c.counted := by rw [Comp.reached, hx]

theorem Comp.reached_of_some (hx : c.nextExpiry ≠ none) : c.reached = { c with advanceDue := true } := by
  rw [Comp.reached]
  split
  next h => exact absurd h hx
  next => rfl

theorem Comp.counted_washing (hst : c.st = .washing b pl h .active) :
    c.counted = { c with st := .washing b { pl with active := pl.active + 1, silence := pl.silence + 1 } h .active } := by
  rw [Comp.counted, hst]
  rfl

theorem Comp.counted_of_released (hst : c.st = .released b pl r) (hr : r.frozen = false) :
    c.counted = { c with st := .released b pl { r with remaining := r.remaining - 1 } } := by
  rw [Comp.counted, hst]
  exact if_neg (by simp [hr])

/-- A record whose timers stand still. -/
def Comp.untimed (c : Comp) : Prop :=
  (∀ b pl h, c.st ≠ .washing b pl h .active) ∧ ∀ b pl r, c.st = .released b pl r → r.frozen = true

theorem Comp.untimed.nextExpiry (hc : c.untimed) : c.nextExpiry = none := by
  by_contra hx
  obtain ⟨b, pl, q, hst⟩ | ⟨b, pl, r, hst, hr⟩ := Comp.timed_of_expiry hx
  · exact hc.1 _ _ _ hst
  · exact Bool.false_ne_true (hr.symm.trans (hc.2 _ _ _ hst))

theorem Comp.untimed.counted (hc : c.untimed) : c.counted = c := by
  obtain h | ⟨b, pl, q, hst, -⟩ | ⟨b, pl, r, hst, hr, -⟩ := c.counted_cases
  · exact h
  · exact absurd hst (hc.1 _ _ _)
  · exact absurd (hr.symm.trans (hc.2 _ _ _ hst)) Bool.false_ne_true

theorem Comp.nextExpiry_released_eq_none (hst : c.st = .released b pl r) (h : r.frozen = true ∨ 1 < r.remaining) :
    c.nextExpiry = none := by
  rw [Comp.nextExpiry_release hst]
  obtain h | h := h
  · simp [h]
  · exact if_neg (by simp; omega)

theorem Comp.nextExpiry_released_eq_some (hst : c.st = .released b pl r) (hr : r.frozen = false) (h : r.remaining ≤ 1) :
    c.nextExpiry = some .release := by
  rw [Comp.nextExpiry_release hst, if_pos (by simp [hr, h])]

theorem Comp.nextExpiry_washing_ne (hst : c.st = .washing b pl h .active)
    (hends : pl.current.maxActive ≤ pl.active + 1 ∨ 60 ≤ pl.silence + 1) : c.nextExpiry ≠ none := by
  rw [Ne, Comp.nextExpiry_washing hst]
  omega

/-! ### The expiry commands -/

theorem expireIf_taken {e : Expiry} (hc : s.compAt k = some c) (hdue : c.advanceDue = true)
    (hx : c.nextExpiry = some e) : expireIf e k s = takeExpiry k c s := by
  rw [expireIf, hc]
  exact if_pos ⟨hdue, hx⟩

theorem expireIf_of_not_due {e : Expiry} (hc : s.compAt k = some c) (hdue : c.advanceDue = false) :
    expireIf e k s = s := by
  rw [expireIf, hc]
  exact if_neg (by simp [hdue])

theorem expireIf_of_other {e : Expiry} (hc : s.compAt k = some c) (hx : c.nextExpiry ≠ some e) :
    expireIf e k s = s := by
  rw [expireIf, hc]
  exact if_neg fun h => hx h.2

theorem settleOne_taken {e : Expiry} (hc : s.compAt k = some c) (hdue : c.advanceDue = true)
    (hx : c.nextExpiry = some e) : settleOne s k = takeExpiry k c s := by
  rw [settleOne, hc]
  dsimp only
  rw [if_pos hdue, hx]

theorem settleOne_counted (hc : s.compAt k = some c) (hdue : c.advanceDue = true) (hx : c.nextExpiry = none) :
    settleOne s k = s.setComp k c.counted.settled := by
  rw [settleOne, hc]
  dsimp only
  rw [if_pos hdue, hx]

/-- An expiry command does nothing, or takes what the record owes. -/
theorem expireIf_cases (e : Expiry) (k : Slot) (s : State) : expireIf e k s = s ∨ expireIf e k s = settleOne s k := by
  unfold expireIf
  split
  next c hc =>
    split_ifs with h
    · exact .inr (settleOne_taken hc h.1 h.2).symm
    · exact .inl rfl
  next => exact .inl rfl

/-- An advance does the same whether an owed expiry was taken before it or not (R131). -/
theorem exec_advance_expireIf {e : Expiry} :
    exec .yardClockAdvance s = exec .yardClockAdvance (expireIf e k s) := by
  obtain hid | hset := expireIf_cases e k s
  · rw [hid]
  · show Host.Outcome.next s.settleAll.advanced = .next (expireIf e k s).settleAll.advanced
    rw [hset, settleAll_settleOne]

/-- An advance that is still owed without an expiry is counted first. -/
theorem exec_advance_counted (hc : s.compAt k = some c) (hdue : c.advanceDue = true) (hx : c.nextExpiry = none) :
    exec .yardClockAdvance s = exec .yardClockAdvance (s.setComp k c.counted.settled) := by
  show Host.Outcome.next s.settleAll.advanced = .next (s.setComp k c.counted.settled).settleAll.advanced
  rw [← settleOne_counted hc hdue hx, settleAll_settleOne]

/-- Settles O13. -/
theorem advanceReachesEveryRecord : Obligations.AdvanceReachesEveryRecord := by
  refine ⟨fun s hdue => ?_, fun s u k => ⟨fun h => ?_, fun h => ?_, fun h => ?_⟩, fun s k c hc hdue => ⟨?_, ?_, ?_⟩⟩
  · have hall := settleAll_of_not_due hdue
    have hcomp : ∀ {k c}, s.compAt k = some c → s.advanced.compAt k = some c.reached := fun hc => by
      rw [State.advanced_compAt, hc]
      rfl
    refine ⟨s.advanced, by show Host.Outcome.next s.settleAll.advanced = _; rw [hall],
      by simp [State.advanced, BitVec.toNat_add],
      rfl, fun k hk => by rw [State.advanced_compAt, hk]; rfl, fun k c hc => ⟨fun b pl h hst hmax hsilence => ?_,
        fun b pl h hst hends => ?_, fun b pl r hst hr hrem => ?_, fun b pl r hst hr hrem => ?_, fun hwash hrel => ?_⟩, rfl⟩
    · rw [hcomp hc, Comp.reached_of_none ((Comp.nextExpiry_washing hst).2 ⟨hmax, hsilence⟩), Comp.counted_washing hst]
    · rw [hcomp hc, Comp.reached_of_some (Comp.nextExpiry_washing_ne hst hends)]
    · rw [hcomp hc, Comp.reached_of_none (Comp.nextExpiry_released_eq_none hst (.inr hrem)), Comp.counted_of_released hst hr]
    · rw [hcomp hc, Comp.reached_of_some (by rw [Comp.nextExpiry_released_eq_some hst hr hrem]; exact nofun)]
    · have huntimed : c.untimed := ⟨hwash, hrel⟩
      rw [hcomp hc, Comp.reached_of_none huntimed.nextExpiry, huntimed.counted]
  · obtain rfl := Host.Outcome.next.inj h
    exact exec_advance_expireIf
  · obtain rfl := Host.Outcome.next.inj h
    exact exec_advance_expireIf
  · obtain rfl := Host.Outcome.next.inj h
    exact exec_advance_expireIf
  · intro b pl h hst hmax hsilence
    rw [exec_advance_counted hc hdue ((Comp.nextExpiry_washing hst).2 ⟨hmax, hsilence⟩), Comp.counted_washing hst]
    rfl
  · intro b pl r hst hr hrem
    rw [exec_advance_counted hc hdue (Comp.nextExpiry_released_eq_none hst (.inr hrem)), Comp.counted_of_released hst hr]
    rfl
  · intro hwash hrel
    have huntimed : c.untimed := ⟨hwash, hrel⟩
    rw [exec_advance_counted hc hdue huntimed.nextExpiry, huntimed.counted]
    rfl

theorem exec_silenceExpiry (k : Slot) (s : State) : exec (.silenceExpiry k) s = .next (expireIf .silence k s) := rfl

theorem exec_activeTimeExpiry (k : Slot) (s : State) : exec (.activeTimeExpiry k) s = .next (expireIf .overrun k s) := rfl

theorem exec_releaseExpiry (k : Slot) (s : State) : exec (.releaseExpiry k) s = .next (expireIf .release k s) := rfl

/-- Only a running step comes to the silence expiry or an overrun. -/
theorem Comp.nextExpiry_of_phase (hwash : c.st.washPhase ≠ some .active) {e : Expiry} (he : e ≠ .release) :
    c.nextExpiry ≠ some e := by
  intro hx
  obtain ⟨b, pl, q, hst⟩ | ⟨b, pl, r, hst, -⟩ := Comp.timed_of_expiry (by rw [hx]; exact nofun)
  · exact hwash (by rw [hst]; rfl)
  · rw [Comp.nextExpiry_release hst] at hx
    split_ifs at hx
    exact he (Option.some.inj hx).symm

/-- Settles O14. -/
theorem expiriesAreTaken : Obligations.ExpiriesAreTaken := by
  intro s k c hc
  refine ⟨fun b pl h => ⟨fun hst hdue hmax hsilence => ?_, fun hdue => ?_, fun hst hsilence => ?_, fun hwash => ?_⟩,
    fun b pl h => ⟨fun hst hdue hmax hfaults => ?_, fun hst hdue hmax hfaults => ?_, fun hdue => ?_, fun hst hmax => ?_,
      fun hwash => ?_⟩, fun b pl r hst hdue hr hrem => ?_, fun hdue => ?_, fun b pl r hst hstays => ?_, fun hrel => ?_⟩
  · have hx : c.nextExpiry = some .silence := by
      rw [Comp.nextExpiry_active hst, if_neg (by omega), if_pos (by omega)]
    rw [exec_silenceExpiry, expireIf_taken hc hdue hx, takeExpiry_silence hst hmax]
  · rw [exec_silenceExpiry, expireIf_of_not_due hc hdue]
  · have hx : c.nextExpiry ≠ some .silence := by
      rw [Comp.nextExpiry_active hst, if_neg (by omega : ¬ 60 ≤ pl.silence + 1)]
      split_ifs <;> exact nofun
    rw [exec_silenceExpiry, expireIf_of_other hc hx]
  · rw [exec_silenceExpiry, expireIf_of_other hc (Comp.nextExpiry_of_phase (e := .silence) hwash (by decide))]
  · have hx : c.nextExpiry = some .overrun := by rw [Comp.nextExpiry_active hst, if_pos hmax]
    rw [exec_activeTimeExpiry, expireIf_taken hc hdue hx, takeExpiry_stall hst hmax hfaults]
  · have hx : c.nextExpiry = some .overrun := by rw [Comp.nextExpiry_active hst, if_pos hmax]
    rw [exec_activeTimeExpiry, expireIf_taken hc hdue hx, takeExpiry_block hst hmax hfaults.ge]
  · rw [exec_activeTimeExpiry, expireIf_of_not_due hc hdue]
  · have hx : c.nextExpiry ≠ some .overrun := by
      rw [Comp.nextExpiry_active hst, if_neg (by omega)]
      split_ifs <;> exact nofun
    rw [exec_activeTimeExpiry, expireIf_of_other hc hx]
  · rw [exec_activeTimeExpiry, expireIf_of_other hc (Comp.nextExpiry_of_phase (e := .overrun) hwash (by decide))]
  · rw [exec_releaseExpiry, expireIf_taken hc hdue (Comp.nextExpiry_released_eq_some hst hr hrem), takeExpiry_release hst]
  · rw [exec_releaseExpiry, expireIf_of_not_due hc hdue]
  · rw [exec_releaseExpiry, expireIf_of_other hc (by rw [Comp.nextExpiry_released_eq_none hst hstays]; exact nofun)]
  · have hx : c.nextExpiry ≠ some .release := by
      intro hx
      obtain ⟨b, pl, q, hst⟩ | ⟨b, pl, r, hst, -⟩ := Comp.timed_of_expiry (by rw [hx]; exact nofun)
      · rw [Comp.nextExpiry_active hst] at hx
        split_ifs at hx <;> cases hx
      · exact hrel _ _ _ hst
    rw [exec_releaseExpiry, expireIf_of_other hc hx]

/-! ### SET TIME -/

theorem owned_setTime (v : ClockValue) :
    s.owned .setTime p (beBytes 4 v.toNat) = ({ s with clock := v }, okWith (beBytes 4 s.clock.toNat)) := by
  rw [State.owned, checkPayload_setTimeFields v.isLt]
  show Machine.setTime (BitVec.ofNat 32 v.toNat) s = _
  rw [ofNat_toNat_clock]
  rfl

theorem exec_setTime (ha : s.admits p .setTime) (v : ClockValue) :
    exec (.setTime p (beBytes 4 v.toNat)) s =
      .next (({ s with clock := v } : State).reply p 0x10 ⟨.ok, 0, beBytes 4 s.clock.toNat⟩) :=
  exec_of_owned (r := .setTime) ha (owned_setTime v)

theorem takeFields_anyField {n : Nat} {got : List Nat} {bs : List Byte} (h : ¬ bs.length < n) :
    takeFields [anyField n] got bs = .ok (got ++ [beValue (bs.take n)], bs.drop n) := by
  rw [takeFields]
  simp only [anyField, if_neg h]
  rfl

/-- Checks 1 and 2 read nothing but the ports. -/
theorem State.admits_congr {q : Port} {n : ReqName} (hports : u.ports = s.ports) (ha : s.admits q n) : u.admits q n := by
  unfold State.admits State.role State.denies State.port at *
  rw [hports]
  exact ha

/-- The record whose release ends carries the clock value the advance produced (R103, R131). -/
theorem expireIf_release_stamped (hc : s.compAt k = some c) (hdue : c.advanceDue = true)
    (hst : c.st = .released b pl r) (hr : r.frozen = false) (hrem : r.remaining ≤ 1) (hincident : c.incident = none) :
    (expireIf .release k s).clock = s.clock ∧ ∃ d, (expireIf .release k s).compAt k = some d ∧ d.st = .washed b pl ∧
      d.incident = some ⟨.releaseExpired, s.lastAdvance, none, 0⟩ := by
  rw [expireIf_taken hc hdue (Comp.nextExpiry_released_eq_some hst hr hrem), takeExpiry_release hst]
  refine ⟨rfl, _, State.compAt_setComp_self .., Comp.capture_st _, ?_⟩
  rw [Comp.capture_eq]
  exact congrArg (fun i => some (Option.getD i _)) hincident

theorem State.advanced_ports (s : State) : s.advanced.ports = s.ports := rfl

theorem State.advanced_lastAdvance (s : State) : s.advanced.lastAdvance = s.clock + 1 := rfl

/-- Settles O15. -/
theorem setTimeLoadsTheClock : Obligations.SetTimeLoadsTheClock := by
  intro s p ha
  refine ⟨exec_setTime ha, fun payload hlen => ?_, fun k c b pl r v hc hst hr hrem hdue hincident => ?_⟩
  · refine exec_of_owned (r := .setTime) ha ?_
    have hcheck : checkPayload setTimeFields 1 payload = .error 1 := by
      by_cases hshort : payload.length < 4
      · exact checkPayload_error (takeFields_cons_error (.inl hshort))
      · have htail : payload.drop 4 ≠ [] := by
          rw [Ne, List.drop_eq_nil_iff]
          omega
        obtain ⟨x, xs, hx⟩ := List.exists_cons_of_ne_nil htail
        refine checkPayload_tooLong (vs := [beValue (payload.take 4)]) (b := x) (rest := xs) ?_
        rw [setTimeFields, takeFields_anyField hshort, hx, List.nil_append]
    rw [State.owned, hcheck]
    rfl
  · obtain ⟨hclock, hports⟩ := settleAll_frame s
    have hcomp : s.settleAll.advanced.compAt k = some { c with advanceDue := true } := by
      have hsettled : s.settleAll.compAt k = some c :=
        (compAt_settleAll fun x hx => Option.some.inj (hc.symm.trans hx) ▸ hdue).trans hc
      rw [State.advanced_compAt, hsettled]
      exact congrArg some (Comp.reached_of_some (by
        rw [Comp.nextExpiry_released_eq_some hst hr hrem.le]
        exact nofun))
    have htime : s.settleAll.advanced.lastAdvance = s.clock + 1 := by
      rw [State.advanced_lastAdvance, hclock]
    obtain ⟨t, ht⟩ : ∃ t, s.settleAll.advanced = t := ⟨_, rfl⟩
    rw [ht] at hcomp htime
    have hadmits : t.admits p .setTime := 
      ht ▸ State.admits_congr ((State.advanced_ports _).trans hports) ha
    obtain ⟨hclock', d, hd, hwashed, hstamp⟩ := expireIf_release_stamped
      (s := ({ t with clock := v } : State).reply p 0x10 ⟨.ok, 0, beBytes 4 t.clock.toNat⟩)
      hcomp rfl hst hr hrem.le hincident
    exact ⟨t, _, _, d, congrArg Host.Outcome.next ht, exec_setTime hadmits v, exec_releaseExpiry .., hd, hwashed,
      hstamp.trans (by rw [← htime]; rfl), hclock'⟩

end Sys2Proof.Machine
end

section
/-! PROOF. Incidents, demands and lines, clause by clause: what a capture and ACK INCIDENT do, what the latches follow, and
what a sample, a level event and a conversion do (R94, R119 to R121, R134, R136, R139, R143 to R149). -/

namespace Sys2Proof.Machine

variable {s u : State} {k : Slot} {c : Comp} {p : Port} {a : Arm} {l : LineNo} {x y : Line} {lv : Level} {high dir : Bool}

/-! ### Incidents -/

/-- Settles O16. -/
theorem incidentsKeptUntilAcknowledged : Obligations.IncidentsKeptUntilAcknowledged := by
  refine ⟨fun c i => ⟨fun h => ?_, fun old h => ?_⟩, fun s p tag index f ha ⟨ht, hi, hf⟩ => ⟨fun i h => ?_, fun h => ?_⟩⟩
  · rw [Comp.capture, h]
  · rw [Comp.capture, h]
  · refine exec_of_owned (r := .ackIncident) ha ((owned_ackIncident ht hi).trans ?_)
    rw [ackIncident, State.withComp_of_find _ hf, h]
    rfl
  · refine exec_of_owned (r := .ackIncident) ha ((owned_ackIncident ht hi).trans ?_)
    rw [ackIncident, State.withComp_of_find _ hf, h]
    rfl

/-! ### Demands and latches -/

theorem HaltSet.isEmpty_iff {h : HaltSet} : h.isEmpty = true ↔ h = ⟨false, false, false⟩ := by
  obtain ⟨limit, ground, overfill⟩ := h
  simp [HaltSet.isEmpty, and_assoc]

theorem flowsOn_iff : flowsOn a c = true ↔ ∃ f, c.st.fill = some (f, ⟨false, false, false⟩) ∧ f.arm = a := by
  unfold flowsOn
  split
  next f h hf =>
    rw [hf, Bool.and_eq_true, beq_iff_eq, HaltSet.isEmpty_iff]
    constructor
    · rintro ⟨harm, rfl⟩
      exact ⟨f, rfl, harm⟩
    · rintro ⟨g, hg, harm⟩
      obtain ⟨rfl, rfl⟩ := Prod.mk.inj (Option.some.inj hg)
      exact ⟨harm, rfl⟩
  next hf => simp [hf]

theorem activeFor_iff : activeFor p c = true ↔ c.st.holder = some p ∧ c.st.washPhase = some .active := by
  simp [activeFor, and_comm]

theorem State.permitDemand_iff : s.permitDemand a = true ↔
    ∃ k c f, s.compAt k = some c ∧ c.st.fill = some (f, ⟨false, false, false⟩) ∧ f.arm = a := by
  simp only [State.permitDemand, State.any_records, flowsOn_iff]
  constructor
  · rintro ⟨k, c, hc, f, hf⟩
    exact ⟨k, c, f, hc, hf⟩
  · rintro ⟨k, c, f, hc, hf⟩
    exact ⟨k, c, hc, f, hf⟩

theorem State.washEnableDemand_iff : s.washEnableDemand p = true ↔
    ∃ k c, s.compAt k = some c ∧ c.st.holder = some p ∧ c.st.washPhase = some .active := by
  simp only [State.washEnableDemand, State.any_records, activeFor_iff]

theorem State.alarmDemand_iff : s.alarmDemand = true ↔ ∃ k c, s.compAt k = some c ∧ c.incident ≠ none := by
  simp only [State.alarmDemand, State.attention, State.any_records, Option.isSome_iff_ne_none]

theorem State.follow_of_no_demand (h : ∀ f d, x.func = some f → s.demand f ≠ some d) : s.follow x = x := by
  unfold State.follow
  split
  next f hf =>
    split
    next d hd => exact absurd hd (h f d hf)
    next => rfl
  next => rfl

/-- Settles O17. -/
theorem latchesAreDriven : Obligations.LatchesAreDriven := by
  refine fun s => ⟨fun a => State.permitDemand_iff, fun p => State.washEnableDemand_iff, State.alarmDemand_iff,
    State.latchesFollow_driveLatches s, State.demand_driveLatches s, fun l => ?_, fun l h => ?_, rfl⟩
  · obtain ⟨latch, hlatch⟩ := s.follow_eq (s.line l)
    rw [State.line_driveLatches, hlatch]
  · rw [State.line_driveLatches, State.follow_of_no_demand h]

/-! ### Samples (R143 to R145) -/

theorem sampledLevel_eq (pol : Polarity) (high : Bool) :
    sampledLevel pol high = if pol = .high ↔ high = true then .active else .inactive := by
  cases pol <;> cases high <;> rfl

theorem exec_inputSample (l : LineNo) (high : Bool) (s : State) : exec (.inputSample l high) s = .next (sampleLine l high s) :=
  rfl

theorem Line.sample_input (hmode : x.mode = .input) (hlevel : x.level ≠ .unsettled) : x.sample lv = x.plainSample lv := by
  rw [Line.sample, hmode]
  exact if_neg hlevel

theorem Line.sample_filtered (hmode : x.mode = .inputFiltered) (hlevel : x.level ≠ .unsettled) :
    x.sample lv = x.filterSample lv := by
  rw [Line.sample, hmode]
  exact if_neg hlevel

theorem Line.sample_unsettled (hmode : x.mode = .input ∨ x.mode = .inputFiltered) (hlevel : x.level = .unsettled) :
    x.sample lv = ({ x with level := lv, run := 0 }, none) := by
  rw [Line.sample]
  obtain h | h := hmode <;> rw [h] <;> exact if_pos hlevel

theorem Line.sample_other (h1 : x.mode ≠ .input) (h2 : x.mode ≠ .inputFiltered) : x.sample lv = (x, none) := by
  unfold Line.sample
  split
  next h => exact absurd h h1
  next h => exact absurd h h2
  next => rfl
  next => rfl
  next => rfl

/-- The sample that turns a settled input: an INPUT line at once, an INPUT_FILTERED one at the end of its depth. -/
theorem Line.sample_turned (hmode : x.mode = .input ∨ x.mode = .inputFiltered ∧ x.depth ≤ x.run + 1)
    (hlevel : x.level ≠ .unsettled) (hlv : lv ≠ x.level) :
    x.sample lv = ({ x with level := lv, run := if x.mode = .input then x.run else 0 }, some (lv == .active)) := by
  obtain h | ⟨h, hdepth⟩ := hmode
  · rw [Line.sample_input h hlevel, Line.plainSample, if_neg hlv, if_pos h]
  · rw [Line.sample_filtered h hlevel, Line.filterSample, if_neg hlv, if_pos hdepth, if_neg (by rw [h]; exact nofun)]

/-- A sample without a level event changes the line alone. -/
theorem sampleLine_quiet (h : (s.line l).sample (sampledLevel (s.line l).polarity high) = (y, none)) :
    sampleLine l high s = s.setLine l y := by
  unfold sampleLine
  rw [h]

/-- A level event of a bound line is handed to the unit that its function names. -/
theorem sampleLine_event {fn : Func} (h : (s.line l).sample (sampledLevel (s.line l).polarity high) = (y, some dir))
    (hf : (s.line l).func = some fn) : sampleLine l high s = (s.setLine l y).levelEvent fn dir := by
  unfold sampleLine
  rw [h, hf]

theorem sampleLine_unbound (h : (s.line l).sample (sampledLevel (s.line l).polarity high) = (y, some dir))
    (hf : (s.line l).func = none) : sampleLine l high s = s.setLine l y := by
  unfold sampleLine
  rw [h, hf]

/-- A halted fill changes its record, and the latches follow. -/
theorem State.haltArm_line (cause : HaltSet → HaltSet) (kind : IncidentKind)
    (hl : ∀ t : State, t.follow (s.line l) = s.line l) : (s.haltArm a cause kind).line l = s.line l := by
  unfold State.haltArm
  split
  next =>
    split
    next => exact (State.line_driveLatches ..).trans (hl _)
    next => rfl
  next => rfl

/-- A level event leaves the line it comes from. -/
theorem State.levelEvent_line {fn : Func} (hf : (s.line l).func = some fn) : (s.levelEvent fn dir).line l = s.line l := by
  cases fn with
  | ground b =>
    have hl : ∀ t : State, t.follow (s.line l) = s.line l := fun t => by rw [State.follow, hf]; rfl
    cases dir with
    | true => rfl
    | false => exact State.haltArm_line _ _ hl
  | overfill b =>
    have hl : ∀ t : State, t.follow (s.line l) = s.line l := fun t => by rw [State.follow, hf]; rfl
    cases dir with
    | true => exact State.haltArm_line _ _ hl
    | false => rfl
  | permit _ => rfl
  | washEnable _ => rfl
  | alarm => rfl
  | rinseProbe _ => rfl

theorem State.levelEvent_of_other {fn : Func} (h : ∀ a, fn ≠ .ground a ∧ fn ≠ .overfill a) : s.levelEvent fn dir = s := by
  cases fn with
  | ground b => exact absurd rfl (h b).1
  | overfill b => exact absurd rfl (h b).2
  | permit _ => rfl
  | washEnable _ => rfl
  | alarm => rfl
  | rinseProbe _ => rfl

/-- A sample that turns the line: the line stands at its new level, and only GROUND and OVERFILL hand the event on. -/
theorem sampleLine_turned (h : (s.line l).sample (sampledLevel (s.line l).polarity high) = (y, some dir)) :
    (sampleLine l high s).line l = y ∧
      ((∀ a, (s.line l).func ≠ some (.ground a) ∧ (s.line l).func ≠ some (.overfill a)) →
        sampleLine l high s = s.setLine l y) := by
  cases hf : (s.line l).func with
  | none =>
    rw [sampleLine_unbound h hf]
    exact ⟨State.line_setLine_self .., fun _ => rfl⟩
  | some fn =>
    have hy : ((s.setLine l y).line l).func = some fn := by
      rw [State.line_setLine_self, ← hf, ← Line.sample_func (s.line l), h]
    rw [sampleLine_event h hf]
    refine ⟨(State.levelEvent_line hy).trans (State.line_setLine_self ..), fun hother => State.levelEvent_of_other fun a => ?_⟩
    exact ⟨fun e => (hother a).1 (congrArg some e), fun e => (hother a).2 (congrArg some e)⟩

/-- Settles O19. -/
theorem sampleFiltersTheLevel : Obligations.SampleFiltersTheLevel := by
  intro s l high lv hlv
  obtain rfl : sampledLevel (s.line l).polarity high = lv := (sampledLevel_eq ..).trans hlv.symm
  refine ⟨fun hmode hlevel => ?_, fun hmode hlevel heq => ?_, fun hmode hlevel hne => ?_, fun hmode hlevel heq => ?_,
    fun hmode hlevel hne hrun => ?_, fun hmode hlevel hne hdepth => ?_, fun h1 h2 => ?_⟩
  · rw [exec_inputSample, sampleLine_quiet (Line.sample_unsettled hmode hlevel)]
  · rw [exec_inputSample, sampleLine_quiet ((Line.sample_input hmode hlevel).trans (if_pos heq)), State.setLine_line]
  · have hturned := (Line.sample_input hmode hlevel).trans (if_neg hne)
    exact ⟨_, exec_inputSample .., sampleLine_turned hturned⟩
  · rw [exec_inputSample, sampleLine_quiet ((Line.sample_filtered hmode hlevel).trans (if_pos heq))]
  · have hcounted : (s.line l).sample (sampledLevel (s.line l).polarity high) =
        ({ s.line l with run := (s.line l).run + 1 }, none) := by
      rw [Line.sample_filtered hmode hlevel, Line.filterSample, if_neg hne, if_neg (by omega)]
    rw [exec_inputSample, sampleLine_quiet hcounted]
  · have hturned := (Line.sample_filtered hmode hlevel).trans ((if_neg hne).trans (if_pos hdepth))
    exact ⟨_, exec_inputSample .., sampleLine_turned hturned⟩
  · rw [exec_inputSample, sampleLine_quiet (Line.sample_other h1 h2), State.setLine_line]

/-! ### Level events of an arm (R119 to R121) -/

theorem State.haltArm_of_free {cause : HaltSet → HaltSet} {kind : IncidentKind} (h : s.fillOn a = none) :
    s.haltArm a cause kind = s := by
  rw [State.haltArm, h]

theorem State.haltArm_of_fill {cause : HaltSet → HaltSet} {kind : IncidentKind} {b : Booking} {pl : Plan} {r : Release}
    {f : Fill} {hs : HaltSet} (h : s.fillOn a = some (k, c)) (hst : c.st = .filling b pl p r f hs) :
    s.haltArm a cause kind = (s.setComp k (Comp.capture { c with st := .filling b pl p r f (cause hs) }
      ⟨kind, s.clock, some p, a.val + 1⟩)).driveLatches := by
  rw [State.haltArm, h]
  dsimp only
  rw [hst]
  rfl

/-- The sample that turns a settled input bound to a function. -/
theorem exec_inputSample_turned {fn : Func}
    (hmode : (s.line l).mode = .input ∨ (s.line l).mode = .inputFiltered ∧ (s.line l).depth ≤ (s.line l).run + 1)
    (hy : y = { s.line l with
      level := sampledLevel (s.line l).polarity high
      run := if (s.line l).mode = .input then (s.line l).run else 0 })
    (hf : (s.line l).func = some fn) (hlevel : (s.line l).level ≠ .unsettled) (hne : y.level ≠ (s.line l).level) :
    exec (.inputSample l high) s = .next ((s.setLine l y).levelEvent fn (y.level == .active)) := by
  subst hy
  rw [exec_inputSample, sampleLine_event (Line.sample_turned hmode hlevel hne) hf]

/-- Settles O20. -/
theorem lineEventHaltsTheFill : Obligations.LineEventHaltsTheFill := by
  rintro s l high a x y rfl hmode hy
  have hevent : ∀ {fn : Func} {old new : Level}, (s.line l).func = some fn → (s.line l).level = old →
      old ≠ .unsettled → y.level = new → new ≠ old →
      exec (.inputSample l high) s = .next ((s.setLine l y).levelEvent fn (new == .active)) :=
    fun hf hx hsettled hto hne =>
      hto ▸ exec_inputSample_turned hmode hy hf (hx ▸ hsettled) (hx ▸ hto ▸ hne)
  refine ⟨fun hf hx hto => ?_, fun hf hx hto => ?_, ?_⟩
  · have h := hevent hf hx (by decide) hto (by decide)
    exact ⟨fun hfill => h.trans (congrArg Host.Outcome.next (State.haltArm_of_free hfill)),
      fun k c b pl q r f hs hfill hst => h.trans (congrArg Host.Outcome.next (State.haltArm_of_fill hfill hst))⟩
  · have h := hevent hf hx (by decide) hto (by decide)
    exact ⟨fun hfill => h.trans (congrArg Host.Outcome.next (State.haltArm_of_free hfill)),
      fun k c b pl q r f hs hfill hst => h.trans (congrArg Host.Outcome.next (State.haltArm_of_fill hfill hst))⟩
  · rintro (⟨hf, hx, hto⟩ | ⟨hf, hx, hto⟩)
    · exact hevent hf hx (by decide) hto (by decide)
    · exact hevent hf hx (by decide) hto (by decide)

/-! ### Conversions (R94, R147) -/

theorem State.convert_eq (s : State) (raw : Nat) :
    (s.convert raw : Int) = min (max ((raw * s.scale / 64 : Nat) + s.offset) 0) 20000 := by
  unfold State.convert
  omega

theorem exec_analogConversion (l : LineNo) (raw : BitVec 10) (s : State) :
    exec (.analogConversion l raw) s = .next (convertLine l raw.toNat s) := rfl

theorem convertLine_unprobed {raw : Nat} (hmode : (s.line l).mode = .analog) (hf : ∀ p, (s.line l).func ≠ some (.rinseProbe p)) :
    convertLine l raw s = s.setLine l { s.line l with raw := some raw } := by
  rw [convertLine, if_pos hmode]
  split
  next p hp => exact absurd hp (hf p)
  next => rfl

theorem convertLine_probed {raw : Nat} (hmode : (s.line l).mode = .analog) (hf : (s.line l).func = some (.rinseProbe p))
    (hp : (s.probe p).isSome = true) : convertLine l raw s =
      (s.setLine l { s.line l with raw := some raw }).setProbe p (some ⟨some ⟨raw, s.convert raw⟩, false⟩) := by
  obtain ⟨q, hq⟩ := Option.isSome_iff_exists.1 hp
  rw [convertLine, if_pos hmode, hf]
  dsimp only
  rw [State.probeSample, State.setLine_probe, hq]
  rfl

/-- Settles O21. -/
theorem conversionReachesTheProbe : Obligations.ConversionReachesTheProbe := by
  refine fun s l raw => ⟨fun hmode hf => ?_, fun p hmode hf hp => ?_, fun hmode => ?_⟩
  · rw [exec_analogConversion, convertLine_unprobed hmode hf]
  · refine ⟨_, s.convert raw.toNat, exec_analogConversion .., convertLine_probed hmode hf hp, s.convert_eq _⟩
  · rw [exec_analogConversion, convertLine, if_neg hmode]

end Sys2Proof.Machine
end

section
/-! PROOF. The planner's tables and the derivation, clause by clause (R24 to R34). -/

namespace Sys2Proof.Machine

variable {s u : State} {p : Port} {c : Comp}

/-! ### What check 3 takes from the requests of the planner -/

/-- A short request with one argument of two bytes. -/
theorem checkShort_wide (lo hi : Nat) (b1 b2 : Byte) :
    checkShort [field 2 lo hi] b1 b2 =
      if lo ≤ 256 * b1.toNat + b2.toNat ∧ 256 * b1.toNat + b2.toNat ≤ hi then .ok [256 * b1.toNat + b2.toNat]
      else .error 1 := by
  have htake : takeFields [field 2 lo hi] [] [b1, b2] =
      if lo ≤ beValue [b1, b2] ∧ beValue [b1, b2] ≤ hi then .ok ([beValue [b1, b2]], []) else .error 1 := by
    simp [takeFields, field]
  rw [checkShort, htake, beValue_pair]
  split_ifs <;> rfl

/-- Equal fields, one for each value. -/
theorem argBytes_replicate {lo hi : Nat} : ∀ vs : List Nat,
    argBytes (fieldArgs (List.replicate vs.length (field 1 lo hi)) vs) = vs.flatMap (beBytes 1)
  | [] => rfl
  | v :: vs => by
    rw [List.length_cons, List.replicate_succ, fieldArgs, argBytes, argBytes_replicate vs]
    rfl

theorem fieldsFit_replicate {hi : Nat} (hhi : hi < 256) : ∀ {vs : List Nat} {got : List Nat}, (∀ v ∈ vs, v ≤ hi) →
    fieldsFit (List.replicate vs.length (field 1 0 hi)) got vs = true
  | [], _, _ => rfl
  | v :: vs, got, h => by
    obtain ⟨hv, hvs⟩ := List.forall_mem_cons.1 h
    rw [List.length_cons, List.replicate_succ, fieldsFit, fieldsFit_replicate hhi hvs]
    simp [field, hv]
    omega

theorem checkLong_setMatrixRowFields {row : ClassNo} {levels : List Nat} (hlen : levels.length = 16)
    (hlevels : ∀ n ∈ levels, n ≤ 7) :
    checkLong setMatrixRowFields (beBytes 1 row.val ++ levels.flatMap (beBytes 1)) = .ok (row.val :: levels) := by
  have hfields : setMatrixRowFields = field 1 0 15 :: List.replicate levels.length (field 1 0 7) := by rw [hlen]; rfl
  rw [hfields]
  refine checkLong_args ?_ ?_
  · rw [fieldArgs, argBytes, argBytes_replicate]
    rfl
  · rw [fieldsFit, fieldsFit_replicate (by decide) hlevels]
    have := row.isLt
    simp [field]
    omega

/-- The five arguments of a step (R33). -/
def stepValues (st : WashStep) : List Nat := [mediumCode st.medium, st.tMin, st.fMin, st.dReq, st.maxActive]

theorem argBytes_stepsFields : ∀ steps : List WashStep,
    argBytes (fieldArgs (stepsFields steps.length) (steps.flatMap stepValues)) = steps.flatMap stepArgs
  | [] => rfl
  | st :: steps => by
    have h := argBytes_stepsFields steps
    simp only [List.length_cons, stepsFields, stepFields, List.flatMap_cons, stepValues, List.cons_append, List.nil_append,
      fieldArgs, argBytes, h, stepArgs, List.append_assoc]
    rfl

theorem fieldsFit_stepsFields : ∀ {steps : List WashStep} {got : List Nat}, (∀ st ∈ steps, st.legal) →
    fieldsFit (stepsFields steps.length) got (steps.flatMap stepValues) = true
  | [], _, _ => rfl
  | st :: steps, got, h => by
    obtain ⟨⟨ht, hf, hd, hmax⟩, hrest⟩ := List.forall_mem_cons.1 h
    have hmedium := mediumCode_range st.medium
    simp only [List.length_cons, stepsFields, stepFields, List.flatMap_cons, stepValues, List.cons_append, List.nil_append,
      fieldsFit, fieldsFit_stepsFields hrest, field]
    simp
    omega

theorem stepsOfArgs_stepValues : ∀ steps : List WashStep, stepsOfArgs steps.length (steps.flatMap stepValues) = steps
  | [] => rfl
  | st :: steps => by
    have h := stepsOfArgs_stepValues steps
    simp [stepsOfArgs, stepValues, arg, h]

theorem length_flatMap_stepArgs (steps : List WashStep) : (steps.flatMap stepArgs).length = 9 * steps.length := by
  induction steps with
  | nil => rfl
  | cons st steps ih =>
    rw [List.flatMap_cons, List.length_append, ih, List.length_cons]
    simp [stepArgs, argBytes]
    omega

theorem checkPayload_defineProgramFields {level : Nat} {steps : List WashStep} {payload : List Byte}
    (hpayload : payload = argBytes [(1, level), (1, steps.length)] ++ steps.flatMap stepArgs) (h1 : 1 ≤ level)
    (h6 : level ≤ 6) (hlen : 1 ≤ steps.length ∧ steps.length ≤ 6) (hlegal : ∀ st ∈ steps, st.legal) :
    checkPayload (defineProgramFields payload.length (programCount payload)) 2 payload =
      .ok (level :: steps.length :: steps.flatMap stepValues) := by
  have hcount : programCount payload = steps.length := by
    rw [hpayload]
    simpa [argBytes] using programCount_eq (level := level) (n := steps.length) (bs := steps.flatMap stepArgs) (by omega)
  have hlength : payload.length = 2 + 9 * steps.length := by
    rw [hpayload, List.length_append, length_flatMap_stepArgs]
    rfl
  rw [hcount, hlength, defineProgramFields]
  refine checkPayload_args _ ?_ ?_
  · rw [fieldArgs, fieldArgs, argBytes, argBytes, argBytes_stepsFields, hpayload]
    simp [argBytes, field]
  · rw [fieldsFit, fieldsFit, fieldsFit_stepsFields hlegal]
    simp [field]
    omega

theorem owned_defineProduct {e : Product} (hcode : 1 ≤ e.code ∧ e.code ≤ 9999) (hcls : 1 ≤ e.cls.val)
    (hafter : e.minLevelAfter ≤ 6) (hpercent : 80 ≤ e.fillPercent ∧ e.fillPercent ≤ 98) :
    s.owned .defineProduct p (argBytes [(2, e.code), (1, e.cls.val), (1, if e.food then 1 else 0), (1, e.minLevelAfter),
      (1, e.fillPercent)]) = defineProduct e s := by
  have hlt := e.cls.isLt
  have hfood : (if e.food then 1 else 0) ≤ 1 := by split_ifs <;> omega
  rw [State.owned, checkLong_defineProductFields hcode ⟨hcls, by omega⟩ hfood hafter hpercent, withArgs_ok]
  refine congrArg (fun x => defineProduct x s) ?_
  obtain ⟨code, cls, food, after, percent⟩ := e
  cases food <;> simp [productOfArgs, arg]

theorem owned_deleteProduct {b1 b2 : Byte} {code : Nat} (hcode : code = 256 * b1.toNat + b2.toNat) :
    s.owned .deleteProduct p [b1, b2] =
      if 1 ≤ code ∧ code ≤ 9999 then deleteProduct code s else (s, refuse .range 1) := by
  subst hcode
  rw [State.owned, deleteProductFields]
  show withArgs (checkShort [field 2 1 9999] b1 b2) s _ = _
  rw [checkShort_wide]
  split_ifs <;> rfl

theorem owned_setMatrixRow {row : ClassNo} {levels : List Nat} (hlen : levels.length = 16)
    (hlevels : ∀ n ∈ levels, n ≤ 7) :
    s.owned .setMatrixRow p (beBytes 1 row.val ++ levels.flatMap (beBytes 1)) = setMatrixRow row levels s := by
  rw [State.owned, checkLong_setMatrixRowFields hlen hlevels, withArgs_ok]
  exact congrArg (fun r => setMatrixRow r levels s) (Fin.ofNat_val_eq_self row)

theorem owned_setClassLimit {cls : ClassNo} {limit hours : Nat} (hlimit : 1 ≤ limit ∧ limit ≤ 20000)
    (hhours : 1 ≤ hours ∧ hours ≤ 48) :
    s.owned .setClassLimit p (argBytes [(1, cls.val), (2, limit), (1, hours)]) = setClassLimit cls ⟨limit, hours⟩ s := by
  have hlt := cls.isLt
  rw [State.owned, checkLong_setClassLimitFields (by omega) hlimit hhours, withArgs_ok]
  exact congrArg (fun d => setClassLimit d ⟨limit, hours⟩ s) (Fin.ofNat_val_eq_self cls)

theorem owned_defineProgram {level : Nat} {steps : List WashStep} (h1 : 1 ≤ level)
    (h6 : level ≤ 6) (hlen : 1 ≤ steps.length ∧ steps.length ≤ 6) (hlegal : ∀ st ∈ steps, st.legal) :
    s.owned .defineProgram p (argBytes [(1, level), (1, steps.length)] ++ steps.flatMap stepArgs) =
      defineProgram level steps s := by
  rw [State.owned, checkPayload_defineProgramFields rfl h1 h6 hlen hlegal, withArgs_ok]
  exact congrArg (fun l => defineProgram level l s) (stepsOfArgs_stepValues steps)

/-! ### The catalogue -/

theorem State.referenced_iff {code : Nat} : s.referenced code = true ↔ s.holdsCode code := by
  simp only [State.referenced, State.any_records, State.holdsCode, refersTo, Bool.or_eq_true, Option.any_eq_true, beq_iff_eq]

theorem State.product_filter (s : State) (code other : Nat) :
    ({ s with catalogue := s.catalogue.filter fun e => e.code != code } : State).product? other =
      if other = code then none else s.product? other := find_filter_code s.catalogue code other

/-- Where codes rise, one entry holds a code. -/
theorem length_filter_code {l : List Product} (hsorted : l.Pairwise fun x y => x.code < y.code) {code : Nat}
    (h : l.find? (fun x => x.code == code) ≠ none) : (l.filter fun e => e.code != code).length + 1 = l.length := by
  induction l with
  | nil => exact absurd rfl h
  | cons y ys ih =>
    obtain ⟨hy, hys⟩ := List.pairwise_cons.1 hsorted
    by_cases hcode : y.code = code
    · have hrest : (ys.filter fun e => e.code != code) = ys :=
        List.filter_eq_self.2 fun x hx => by
          have := hy x hx
          simp
          omega
      rw [List.filter_cons_of_neg (by simpa using hcode), hrest, List.length_cons]
    · rw [List.filter_cons_of_pos (by simpa using hcode), List.length_cons, List.length_cons, ih hys]
      rwa [List.find?_cons_of_neg (by simpa using hcode)] at h

theorem defineProduct_referenced {e : Product} (h : s.holdsCode e.code) :
    defineProduct e s = (s, refuse .referenced 0) := by
  rw [defineProduct, if_pos (State.referenced_iff.2 h)]

theorem defineProduct_full {e : Product} (h : ¬ s.holdsCode e.code) (hnone : s.product? e.code = none)
    (hfull : s.catalogue.length = 128) : defineProduct e s = (s, refuse .full 0) := by
  rw [defineProduct, if_neg (State.referenced_iff.not.2 h), if_pos (by simp [hnone, hfull, Config.catalogueSize])]

theorem defineProduct_written {e : Product} (h : ¬ s.holdsCode e.code)
    (hroom : s.product? e.code ≠ none ∨ s.catalogue.length < 128) :
    defineProduct e s = ({ s with catalogue := putProduct e s.catalogue },
      okWith (beBytes 1 (putProduct e s.catalogue).length)) := by
  rw [defineProduct, if_neg (State.referenced_iff.not.2 h), if_neg]
  rintro hfull
  obtain ⟨hnone, hlen⟩ := Bool.and_eq_true_iff.1 hfull
  have := hroom.resolve_left fun hne => hne (Option.isNone_iff_eq_none.1 hnone)
  simp only [ge_iff_le, Config.catalogueSize, decide_eq_true_eq] at hlen
  omega

theorem deleteProduct_unknown {code : Nat} (h : s.product? code = none) :
    deleteProduct code s = (s, refuse .unknownProduct 0) := by
  rw [deleteProduct, if_pos (by rw [h]; rfl)]

theorem deleteProduct_referenced {code : Nat} (h : s.product? code ≠ none) (href : s.holdsCode code) :
    deleteProduct code s = (s, refuse .referenced 0) := by
  rw [deleteProduct, if_neg (by simpa using h), if_pos (State.referenced_iff.2 href)]

theorem deleteProduct_written {code : Nat} (h : s.product? code ≠ none) (href : ¬ s.holdsCode code) :
    deleteProduct code s = ({ s with catalogue := s.catalogue.filter fun e => e.code != code },
      okWith (beBytes 1 (s.catalogue.filter fun e => e.code != code).length)) := by
  rw [deleteProduct, if_neg (by simpa using h), if_neg (State.referenced_iff.not.2 href)]

/-- Settles O22. -/
theorem catalogueIsWritten : Obligations.CatalogueIsWritten := by
  refine ⟨?_, ?_⟩
  · rintro s p e payload ha ⟨hsorted, -⟩ hcode hcls hafter hpercent rfl
    have howned := owned_defineProduct (s := s) (p := p) hcode hcls hafter hpercent
    refine ⟨fun h => exec_of_owned ha (howned.trans (defineProduct_referenced h)),
      fun h hnone hfull => exec_of_owned ha (howned.trans (defineProduct_full h hnone hfull)), fun h hroom => ?_⟩
    exact ⟨_, exec_of_owned ha (howned.trans (defineProduct_written h hroom)), fun code => find_putProduct code hsorted,
      length_putProduct hsorted, rfl⟩
  · rintro s p b1 b2 code ha ⟨hsorted, -⟩ hcode
    have howned := owned_deleteProduct (s := s) (p := p) hcode
    refine ⟨fun h => ?_, fun h1 h2 h => ?_, fun h1 h2 h href => ?_, fun h1 h2 h href => ?_⟩
    · exact exec_of_owned (r := .deleteProduct) (args := [b1, b2]) ha (howned.trans (if_neg (by omega)))
    · exact exec_of_owned (r := .deleteProduct) (args := [b1, b2]) ha
        (howned.trans ((if_pos ⟨h1, h2⟩).trans (deleteProduct_unknown h)))
    · exact exec_of_owned (r := .deleteProduct) (args := [b1, b2]) ha
        (howned.trans ((if_pos ⟨h1, h2⟩).trans (deleteProduct_referenced h href)))
    · exact ⟨_, exec_of_owned (r := .deleteProduct) (args := [b1, b2]) ha
        (howned.trans ((if_pos ⟨h1, h2⟩).trans (deleteProduct_written h href))), s.product_filter code,
        length_filter_code hsorted h, rfl⟩

/-! ### Matrix, limits and programs -/

/-- Settles O23. -/
theorem planningTablesAreWritten : Obligations.PlanningTablesAreWritten := by
  refine fun s p => ⟨fun row levels ha hlevels => ?_, fun cls limit hours ha h1 h2 h3 h4 => ?_,
    fun level steps ha h1 h2 h3 h4 hlegal => ?_⟩
  · have hle : ∀ n ∈ levels.toList, n ≤ 7 := fun n hn => by
      obtain ⟨i, hi, rfl⟩ := Vector.getElem_of_mem (Vector.mem_toList_iff.1 hn)
      exact hlevels ⟨i, hi⟩
    refine ⟨_, exec_of_owned ha (owned_setMatrixRow (Vector.length_toList ..) hle), fun r c => ?_, rfl⟩
    rw [State.matrixLevel_setRow]
    simp
  · exact ⟨_, exec_of_owned ha (owned_setClassLimit ⟨h1, h2⟩ ⟨h3, h4⟩), fun c => State.classLimit_set .., rfl⟩
  · refine ⟨_, exec_of_owned ha (owned_defineProgram h1 h2 ⟨h3, h4⟩ hlegal), fun n => ?_, rfl⟩
    simp only [Fin.getElem_fin, Vector.getElem_set, Fin.val_ofNat]
    have := n.isLt
    exact if_congr (by omega) rfl rfl

/-! ### The derivation (R34) -/

theorem State.derive_of_none {cls : ClassNo} {food : Bool} (h : c.last = none) : s.derive c cls food = .level 6 := by
  rw [State.derive, h]

theorem State.derive_forbidden {cls : ClassNo} {food : Bool} {l : LastProduct} (h : c.last = some l)
    (hm : s.matrixLevel l.cls cls = 7) : s.derive c cls food = .forbidden := by
  rw [State.derive, h]
  exact if_pos hm

theorem State.derive_level {cls : ClassNo} {food : Bool} {l : LastProduct} (h : c.last = some l)
    (hm : s.matrixLevel l.cls cls ≠ 7) :
    s.derive c cls food = .level (
      if max (s.matrixLevel l.cls cls) (s.minLevelAfter l.code) = 0 ∧ food = true ∧ ∃ pl, c.st.plan = some pl ∧
        pl.foodBay = false then 1
      else max (s.matrixLevel l.cls cls) (s.minLevelAfter l.code)) := by
  rw [State.derive, h]
  dsimp only
  rw [if_neg hm]
  by_cases hzero : max (s.matrixLevel l.cls cls) (s.minLevelAfter l.code) = 0
  · rw [if_pos hzero, hzero]
    have hflag : (food && c.st.plan.any fun pl => !pl.foodBay) = true ↔
        food = true ∧ ∃ pl, c.st.plan = some pl ∧ pl.foodBay = false := by simp [Option.any_eq_true]
    simp only [hflag, true_and]
    split_ifs <;> rfl
  · rw [if_neg hzero, if_neg fun h => hzero h.1]

theorem State.minLevelAfter_eq {code after : Nat}
    (h : (code = 0 ∧ after = 0) ∨ (code ≠ 0 ∧ ∃ e, s.product? code = some e ∧ after = e.minLevelAfter)) :
    s.minLevelAfter code = after := by
  rw [State.minLevelAfter]
  obtain ⟨hcode, rfl⟩ | ⟨hcode, e, he, rfl⟩ := h
  · exact if_pos hcode
  · rw [if_neg hcode, he]

/-- Settles O24. -/
theorem derivationFindsTheLevel : Obligations.DerivationFindsTheLevel := by
  refine fun s c cls food => ⟨State.derive_of_none, fun l h hm => State.derive_forbidden h hm,
    fun l after level h hm hafter hlevel => ?_⟩
  have hmax : level = max (s.matrixLevel l.cls cls) after := by
    rw [hlevel]
    split_ifs <;> omega
  rw [State.derive_level h hm, State.minLevelAfter_eq hafter, hmax]

end Sys2Proof.Machine
end

section
/-! PROOF. BOOK and UNBLOCK, state by state (R38 to R46). -/

namespace Sys2Proof.Machine

variable {s u : State} {a : Answer} {p : Port} {tag index target n : Nat} {f : Found} {pr : Priority} {cls : ClassNo}
  {k : Slot} {c : Comp} {b old : Booking} {pl : Plan} {food : Bool}

/-! ### Plans -/

/-- The new plan of a level whose program is defined (R36). -/
def State.planOf (s : State) (n : Nat) (food : Bool) : Plan :=
  ⟨n, s.program n, 1, 0, 0, 0, 0, true, needsOf (s.program n) food⟩

theorem State.newPlan_of_undefined (h : s.program n = []) : s.newPlan n food = none := by
  rw [State.newPlan, h]
  rfl

theorem State.newPlan_of_defined (h : s.program n ≠ []) : s.newPlan n food = some (s.planOf n food) := by
  rw [State.newPlan, if_neg (by simpa using h)]
  rfl

theorem foodMet_iff {bay : Bool} : foodMet food bay = true ↔ (food = true → bay = true) := by
  cases food <;> simp [foodMet]

theorem State.dequeue_eq (s : State) (e : Entry) : s.dequeue e = { s with queue := s.queue.filter (· ≠ e) } := by
  have hfilter : (s.queue.filter fun x => x != e) = s.queue.filter (· ≠ e) :=
    List.filter_congr fun x _ => by simp [bne, beq_eq_decide]
  rw [State.dequeue, hfilter]

/-! ### The outcomes of R39 -/

theorem planAfresh_forbidden : planAfresh k c b food .forbidden s =
    (s.setComp k { c with st := .blockedForbidden b }, ⟨.ok, 0, [9, 7, 0]⟩) := rfl

theorem planAfresh_zero : planAfresh k c b food (.level 0) s =
    (s.setComp k { c with
      st := .washed b ⟨0, [], 1, 0, 0, 0, 0, c.st.plan.all (·.foodBay), ⟨false, false, food⟩⟩
      performed := 0 }, ⟨.ok, 0, [4, 0, 1]⟩) := rfl

theorem planAfresh_undefined (h1 : 1 ≤ n) (h : s.program n = []) :
    planAfresh k c b food (.level n) s = (s, ⟨.noProgram, n, []⟩) := by
  obtain ⟨m, rfl⟩ := Nat.exists_eq_add_of_le' h1
  rw [planAfresh, State.newPlan_of_undefined h]
  rfl

theorem planAfresh_defined (h1 : 1 ≤ n) (h : s.program n ≠ []) :
    planAfresh k c b food (.level n) s =
      (s.enqueueTail k c b (s.planOf n food), ⟨.ok, 0, 2 :: beBytes 1 n ++ [1]⟩) := by
  obtain ⟨m, rfl⟩ := Nat.exists_eq_add_of_le' h1
  rw [planAfresh, State.newPlan_of_defined h]
  rfl

/-! ### BOOK reaches the compartment -/

/-- The class of a target: 0 for a clean return, else that of its entry. -/
theorem State.targetClass_eq
    (h : (target = 0 ∧ cls = 0) ∨ (target ≠ 0 ∧ ∃ e, s.product? target = some e ∧ e.cls = cls)) :
    s.targetClass target = some cls := by
  rw [State.targetClass]
  obtain ⟨htarget, rfl⟩ | ⟨htarget, e, he, rfl⟩ := h
  · exact if_pos htarget
  · rw [if_neg htarget, he]
    rfl

theorem exists_loaded_of_stateCode {st : CompState} (h : stateCode st = 8) : ∃ q, st = .loaded q := by
  cases st <;> cases h
  exact ⟨_, rfl⟩

theorem exec_book_loaded {q : Loaded} (ha : s.admits p .book) (hn : s.names tag index f) (hg : target ≤ 9999)
    (hst : f.comp.st = .loaded q) :
    exec (.book p (addressBytes tag index ++ argBytes [(2, target), (1, priorityCode pr)])) s =
      .next (s.reply p 0x21 ⟨.state, 8, []⟩) := by
  obtain ⟨ht, hi, hf⟩ := hn
  refine exec_of_owned (r := .book) ha ((owned_book ht hi hg (priorityCode_range pr)).trans ?_)
  rw [book, State.withComp_of_find _ hf, needsNoHolder_of_none _ (by rw [hst]; rfl), stateRefusal, hst]
  rfl

theorem exec_book_unknown (ha : s.admits p .book) (hn : s.names tag index f) (hg : target ≤ 9999)
    (hholder : f.comp.st.holder = none) (hloaded : ∀ q, f.comp.st ≠ .loaded q) (htarget : target ≠ 0)
    (hnone : s.product? target = none) :
    exec (.book p (addressBytes tag index ++ argBytes [(2, target), (1, priorityCode pr)])) s =
      .next (s.reply p 0x21 ⟨.unknownProduct, 0, []⟩) := by
  obtain ⟨ht, hi, hf⟩ := hn
  have hcode : stateCode f.comp.st ≠ 8 := fun h => (exists_loaded_of_stateCode h).elim hloaded
  refine exec_of_owned (r := .book) ha ((owned_book ht hi hg (priorityCode_range pr)).trans ?_)
  rw [book, State.withComp_of_find _ hf, needsNoHolder_of_none _ hholder, if_neg hcode, State.targetClass, if_neg htarget,
    hnone]
  rfl

/-- BOOK of a compartment that nobody holds and that is not LOADED does what its state says. -/
theorem exec_book (ha : s.admits p .book) (hn : s.names tag index f) (hg : target ≤ 9999)
    (hclass : (target = 0 ∧ cls = 0) ∨ (target ≠ 0 ∧ ∃ e, s.product? target = some e ∧ e.cls = cls))
    (hholder : f.comp.st.holder = none) (hcode : stateCode f.comp.st ≠ 8)
    (hb : bookBy f ⟨target, cls, pr⟩ (s.foodTarget target) s = (u, a)) :
    exec (.book p (addressBytes tag index ++ argBytes [(2, target), (1, priorityCode pr)])) s = .next (u.reply p 0x21 a) := by
  obtain ⟨ht, hi, hf⟩ := hn
  refine exec_of_owned (r := .book) ha ((owned_book ht hi hg (priorityCode_range pr)).trans ?_)
  rw [book, State.withComp_of_find _ hf, needsNoHolder_of_none _ hholder, if_neg hcode, State.targetClass_eq hclass,
    priorityOfCode_priorityCode]
  exact hb

/-! ### The first plan (R39, R44) -/

theorem bookBy_first (hst : f.comp.st = .arrived ∨ ∃ old, f.comp.st = .blockedForbidden old) :
    bookBy f b food s = planAfresh f.slot f.comp b food (s.derive f.comp b.cls food) s := by
  rw [bookBy]
  obtain h | ⟨old, h⟩ := hst <;> rw [h]

/-- Settles O26. -/
theorem bookFirstPlan : Obligations.BookFirstPlan := by
  rintro s p tag index f target pr cls payload b ha hn hst hg hclass rfl rfl
  have hfree : f.comp.st.holder = none ∧ stateCode f.comp.st ≠ 8 ∧ f.comp.st.plan = none := by
    obtain h | ⟨old, h⟩ := hst <;> rw [h] <;> exact ⟨rfl, nofun, rfl⟩
  obtain ⟨hholder, hcode, hplan⟩ := hfree
  refine ⟨fun hd => ?_, fun hd => ?_, fun n hd h1 hprog => ?_, fun n hd h1 hprog => ?_⟩ <;>
    refine exec_book ha hn hg hclass hholder hcode ((bookBy_first hst).trans ?_) <;> rw [hd]
  · exact planAfresh_forbidden
  · rw [planAfresh_zero, hplan]
    rfl
  · exact planAfresh_undefined h1 hprog
  · exact planAfresh_defined h1 hprog

/-! ### A QUEUED compartment (R40) -/

theorem bookBy_queued (hst : f.comp.st = .queued old pl) :
    bookBy f b food s = bookQueued f.slot f.comp old pl b food (s.derive f.comp b.cls food) s := by
  rw [bookBy, hst]

theorem bookQueued_forbidden : bookQueued k c old pl b food .forbidden s =
    (({ s with queue := s.queue.filter (· ≠ c.entry) } : State).setComp k { c with st := .blockedForbidden b },
      ⟨.ok, 0, [9, 7, 0]⟩) := by
  rw [← State.dequeue_eq]
  rfl

theorem bookQueued_zero : bookQueued k c old pl b food (.level 0) s =
    (({ s with queue := s.queue.filter (· ≠ c.entry) } : State).setComp k { c with
      st := .washed b ⟨0, [], 1, 0, 0, 0, 0, pl.foodBay, ⟨false, false, food⟩⟩
      performed := 0 }, ⟨.ok, 0, [4, 0, 1]⟩) := by
  rw [← State.dequeue_eq]
  rfl

/-- The plan of a QUEUED compartment that is booked again, where it stays QUEUED: kept or new, and the outcome reported. -/
theorem bookQueued_stays {npl : Plan} {outcome : Nat} (h1 : 1 ≤ n)
    (hplan : (n = pl.level ∧ (food = true → pl.foodBay = true) ∧ outcome = 2 ∧
        npl = { pl with needs := needsOf pl.steps food }) ∨
      (¬ (n = pl.level ∧ (food = true → pl.foodBay = true)) ∧ s.program n ≠ [] ∧ outcome = 1 ∧ npl = s.planOf n food)) :
    bookQueued k c old pl b food (.level n) s =
      (requeue k c old b npl s, ⟨.ok, 0, 2 :: beBytes 1 n ++ beBytes 1 outcome⟩) := by
  obtain ⟨m, rfl⟩ := Nat.exists_eq_add_of_le' h1
  rw [bookQueued]
  obtain ⟨hlevel, hmet, rfl, rfl⟩ | ⟨hnot, hprog, rfl, rfl⟩ := hplan
  · rw [if_pos ⟨hlevel, foodMet_iff.2 hmet⟩]
    rfl
  · rw [if_neg fun h => hnot ⟨h.1, foodMet_iff.1 h.2⟩, State.newPlan_of_defined hprog]
    rfl

theorem bookQueued_undefined (h1 : 1 ≤ n) (hnot : ¬ (n = pl.level ∧ (food = true → pl.foodBay = true)))
    (hprog : s.program n = []) : bookQueued k c old pl b food (.level n) s = (s, ⟨.noProgram, n, []⟩) := by
  obtain ⟨m, rfl⟩ := Nat.exists_eq_add_of_le' h1
  rw [bookQueued, if_neg fun h => hnot ⟨h.1, foodMet_iff.1 h.2⟩, State.newPlan_of_undefined hprog]
  rfl

/-- Settles O27. -/
theorem bookQueuedCompartment : Obligations.BookQueuedCompartment := by
  rintro s p tag index f target pr cls payload old b pl ha hn hst hg hclass rfl rfl
  have hbook : ∀ {u : State} {a : Answer}, bookQueued f.slot f.comp old pl ⟨target, cls, pr⟩ (s.foodTarget target)
      (s.derive f.comp cls (s.foodTarget target)) s = (u, a) →
      exec (.book p (addressBytes tag index ++ argBytes [(2, target), (1, priorityCode pr)])) s =
        .next (u.reply p 0x21 a) := fun h =>
    exec_book ha hn hg hclass (by rw [hst]; rfl) (by rw [hst]; exact nofun) ((bookBy_queued hst).trans h)
  refine ⟨fun hd => hbook (by rw [hd]; exact bookQueued_forbidden), fun hd => hbook (by rw [hd]; exact bookQueued_zero),
    fun n npl outcome hd h1 hplan => ⟨fun hsame => ?_, fun hmoved => ?_⟩,
    fun n hd h1 hnot hprog => hbook (by rw [hd]; exact bookQueued_undefined h1 hnot hprog)⟩
  · refine hbook ?_
    rw [hd, bookQueued_stays h1 hplan, requeue, if_pos hsame]
    rfl
  · refine hbook ?_
    rw [hd, bookQueued_stays h1 hplan, requeue, if_neg hmoved, State.dequeue_eq]

/-! ### A WASHED compartment and a RELEASED one (R41 to R43) -/

theorem bookWashed_forbidden : bookWashed k c pl b food .forbidden s =
    (s.setComp k { c with st := .blockedForbidden b }, ⟨.ok, 0, [9, 7, 0]⟩) := rfl

theorem bookWashed_kept (hn : n ≤ c.performed) (hmet : food = true → pl.foodBay = true) :
    bookWashed k c pl b food (.level n) s =
      (s.setComp k { c with st := .washed b { pl with needs := needsOf pl.steps food } },
        ⟨.ok, 0, 4 :: beBytes 1 n ++ [2]⟩) :=
  if_pos ⟨hn, foodMet_iff.2 hmet⟩

/-- The plan of a WASHED compartment is not kept: it washed too little, or its food-bay flag is clear. -/
theorem not_kept_of_short (h : c.performed < n ∨ (food = true ∧ pl.foodBay = false)) :
    ¬ (n ≤ c.performed ∧ foodMet food pl.foodBay = true) := by
  rintro ⟨hle, hmet⟩
  obtain hlt | ⟨hfood, hbay⟩ := h
  · omega
  · exact Bool.false_ne_true (hbay.symm.trans (foodMet_iff.1 hmet hfood))

theorem bookWashed_undefined (h : c.performed < n ∨ (food = true ∧ pl.foodBay = false)) (hprog : s.program n = []) :
    bookWashed k c pl b food (.level n) s = (s, ⟨.noProgram, n, []⟩) := by
  rw [bookWashed, if_neg (not_kept_of_short h), State.newPlan_of_undefined hprog]
  rfl

theorem bookWashed_defined (h : c.performed < n ∨ (food = true ∧ pl.foodBay = false)) (hprog : s.program n ≠ []) :
    bookWashed k c pl b food (.level n) s =
      (s.enqueueTail k c b (s.planOf n food), ⟨.ok, 0, 2 :: beBytes 1 n ++ [1]⟩) := by
  rw [bookWashed, if_neg (not_kept_of_short h), State.newPlan_of_defined hprog]
  rfl

theorem State.covers_iff {r : Release} : s.covers r (.level n) cls food = true ↔
    n ≤ r.performed ∧ r.conductivity ≤ (s.classLimit cls).conductivity ∧ (food = true → r.foodBay = true) := by
  simp [State.covers, foodMet_iff, and_assoc]

/-- A release that does not cover a booking falls short in its level, its conductivity or its food-bay flag. -/
theorem State.not_covers {r : Release} {d : Derived} (h : ∀ n, d = .level n →
    r.performed < n ∨ (s.classLimit cls).conductivity < r.conductivity ∨ (food = true ∧ r.foodBay = false)) :
    ¬ s.covers r d cls food = true := by
  cases d with
  | forbidden => exact nofun
  | level n =>
    rw [State.covers_iff]
    rintro ⟨hlevel, hcond, hfood⟩
    obtain h | h | ⟨h, hbay⟩ := h n rfl
    · omega
    · omega
    · exact Bool.false_ne_true (hbay.symm.trans (hfood h))

theorem bookBy_released {r : Release} (hst : f.comp.st = .released old pl r) :
    bookBy f b food s = bookReleased f.slot f.comp pl r b food (s.derive f.comp b.cls food) s := by
  rw [bookBy, hst]

/-- A WASHED compartment, and a RELEASED one whose release does not cover the booking, are booked alike. -/
theorem bookBy_washed (h : f.comp.st = .washed old pl ∨
    ∃ r, f.comp.st = .released old pl r ∧ ∀ n, s.derive f.comp b.cls food = .level n →
      r.performed < n ∨ (s.classLimit b.cls).conductivity < r.conductivity ∨ (food = true ∧ r.foodBay = false)) :
    bookBy f b food s = bookWashed f.slot f.comp pl b food (s.derive f.comp b.cls food) s := by
  obtain hst | ⟨r, hst, hshort⟩ := h
  · rw [bookBy, hst]
  · rw [bookBy_released hst, bookReleased, if_neg (State.not_covers hshort)]

/-- Settles O28. -/
theorem bookWashedOrReleased : Obligations.BookWashedOrReleased := by
  rintro s p tag index f target pr cls payload old b pl food ha hn hg hclass rfl rfl rfl
  refine ⟨fun r n hst hd hlevel hcond hbay => ?_, fun hst => ?_⟩
  · refine exec_book ha hn hg hclass (by rw [hst]; rfl) (by rw [hst]; exact nofun) ((bookBy_released hst).trans ?_)
    rw [hd, bookReleased, if_pos (State.covers_iff.2 ⟨hlevel, hcond, hbay⟩)]
    rfl
  · have hfree : f.comp.st.holder = none ∧ stateCode f.comp.st ≠ 8 := by
      obtain h | ⟨r, h, -⟩ := hst <;> rw [h] <;> exact ⟨rfl, nofun⟩
    have hbook : ∀ {u : State} {a : Answer}, bookWashed f.slot f.comp pl ⟨target, cls, pr⟩ (s.foodTarget target)
        (s.derive f.comp cls (s.foodTarget target)) s = (u, a) →
        exec (.book p (addressBytes tag index ++ argBytes [(2, target), (1, priorityCode pr)])) s =
          .next (u.reply p 0x21 a) := fun h =>
      exec_book ha hn hg hclass hfree.1 hfree.2 ((bookBy_washed hst).trans h)
    refine ⟨fun hd => hbook (by rw [hd]; exact bookWashed_forbidden),
      fun n hd hle hmet => hbook (by rw [hd]; exact bookWashed_kept hle hmet),
      fun n hd hshort => ⟨fun hprog => hbook (by rw [hd]; exact bookWashed_undefined hshort hprog),
        fun hprog => hbook (by rw [hd]; exact bookWashed_defined hshort hprog)⟩⟩

/-! ### A BLOCKED(FAULTS) compartment (R44) -/

theorem bookBy_faults {opl : Option Plan} (hst : f.comp.st = .blockedFaults old opl) :
    bookBy f b food s = bookFaults f.slot f.comp b food (s.derive f.comp b.cls food) s := by
  rw [bookBy, hst]

theorem bookFaults_forbidden : bookFaults k c b food .forbidden s =
    (s.setComp k { c with st := .blockedFaults b none }, ⟨.ok, 0, [9, 7, 0]⟩) := rfl

theorem bookFaults_zero : bookFaults k c b food (.level 0) s =
    (s.setComp k { c with st := .blockedFaults b (some ⟨0, [], 1, 0, 0, 0, 0, c.st.plan.all (·.foodBay),
      ⟨false, false, food⟩⟩) }, ⟨.ok, 0, [9, 0, 1]⟩) := rfl

theorem bookFaults_undefined (h1 : 1 ≤ n) (h : s.program n = []) :
    bookFaults k c b food (.level n) s = (s, ⟨.noProgram, n, []⟩) := by
  obtain ⟨m, rfl⟩ := Nat.exists_eq_add_of_le' h1
  rw [bookFaults, State.newPlan_of_undefined h]
  rfl

theorem bookFaults_defined (h1 : 1 ≤ n) (h : s.program n ≠ []) :
    bookFaults k c b food (.level n) s = (s.setComp k { c with st := .blockedFaults b (some (s.planOf n food)) },
      ⟨.ok, 0, 9 :: beBytes 1 n ++ [1]⟩) := by
  obtain ⟨m, rfl⟩ := Nat.exists_eq_add_of_le' h1
  rw [bookFaults, State.newPlan_of_defined h]
  rfl

/-- Settles O29. -/
theorem bookBlockedAndRefused : Obligations.BookBlockedAndRefused := by
  rintro s p tag index f target pr payload ha hn hg rfl
  refine ⟨fun q => exec_book_loaded ha hn hg, exec_book_unknown ha hn hg, ?_⟩
  rintro cls old opl food hst hclass rfl
  have hplan : f.comp.st.plan = opl := by rw [hst]; rfl
  have hbook : ∀ {u : State} {a : Answer}, bookFaults f.slot f.comp ⟨target, cls, pr⟩ (s.foodTarget target)
      (s.derive f.comp cls (s.foodTarget target)) s = (u, a) →
      exec (.book p (addressBytes tag index ++ argBytes [(2, target), (1, priorityCode pr)])) s =
        .next (u.reply p 0x21 a) := fun h =>
    exec_book ha hn hg hclass (by rw [hst]; rfl) (by rw [hst]; exact nofun) ((bookBy_faults hst).trans h)
  refine ⟨fun hd => hbook (by rw [hd]; exact bookFaults_forbidden), fun hd => hbook (by rw [hd, bookFaults_zero, hplan]),
    fun n hd h1 => ⟨fun hprog => hbook (by rw [hd]; exact bookFaults_undefined h1 hprog),
      fun hprog => hbook (by rw [hd]; exact bookFaults_defined h1 hprog)⟩⟩

/-! ### UNBLOCK (R46) -/

theorem exec_unblock (ha : s.admits p .unblock) (hn : s.names tag index f)
    (hst : f.comp.st = .blockedForbidden b ∨ ∃ opl, f.comp.st = .blockedFaults b opl) (h : unblockWith f b s = (u, a)) :
    exec (.unblock p (addressBytes tag index)) s = .next (u.reply p 0x23 a) := by
  obtain ⟨ht, hi, hf⟩ := hn
  refine exec_of_owned (r := .unblock) ha ((owned_unblock ht hi).trans ?_)
  rw [unblock, State.withComp_of_find _ hf]
  obtain hst | ⟨opl, hst⟩ := hst <;> rw [hst] <;> exact h

theorem exec_unblock_refused (ha : s.admits p .unblock) (hn : s.names tag index f) (hcode : stateCode f.comp.st ≠ 9) :
    exec (.unblock p (addressBytes tag index)) s = .next (s.reply p 0x23 ⟨.state, stateCode f.comp.st, []⟩) := by
  obtain ⟨ht, hi, hf⟩ := hn
  refine exec_of_owned (r := .unblock) ha ((owned_unblock ht hi).trans ?_)
  rw [unblock, State.withComp_of_find _ hf]
  split
  next hst => exact absurd (by rw [hst]; rfl) hcode
  next hst => exact absurd (by rw [hst]; rfl) hcode
  all_goals rfl

/-- Settles O30. -/
theorem unblockDerivesAgain : Obligations.UnblockDerivesAgain := by
  refine fun s p tag index f ha hn => ⟨exec_unblock_refused ha hn, ?_⟩
  rintro b opl food hst rfl
  have hplan : f.comp.st.plan = opl := by
    obtain ⟨h, rfl⟩ | h := hst <;> rw [h] <;> rfl
  have hblocked : f.comp.st = .blockedForbidden b ∨ ∃ opl, f.comp.st = .blockedFaults b opl :=
    hst.imp And.left fun h => ⟨opl, h⟩
  have hunblock : ∀ {u : State} {a : Answer}, planAfresh f.slot { f.comp with faults := 0 } b (s.foodTarget b.target)
      (s.derive f.comp b.cls (s.foodTarget b.target)) s = (u, a) →
      exec (.unblock p (addressBytes tag index)) s = .next (u.reply p 0x23 a) := exec_unblock ha hn hblocked
  refine ⟨fun hd => hunblock (by rw [hd]; exact planAfresh_forbidden), fun hd => hunblock ?_,
    fun n hd h1 => ⟨fun hprog => hunblock (by rw [hd]; exact planAfresh_undefined h1 hprog),
      fun hprog => hunblock (by rw [hd]; exact planAfresh_defined h1 hprog)⟩⟩
  rw [hd, planAfresh_zero, hplan]

end Sys2Proof.Machine
end

section
/-! PROOF. Tankers and compartment records: registering, departing, clearing and revoking (R14 to R21). -/

namespace Sys2Proof.Machine

variable {s u : State} {a : Answer} {p : Port} {tag : Nat} {t : TankerSlot} {f : Found}

/-! ### The lowest that qualifies -/

theorem find_finRange_of_lowest {n : Nat} {P : Fin n → Bool} {i : Fin n} (hi : P i = true)
    (hlow : ∀ j, j.val < i.val → P j = false) : (List.finRange n).find? P = some i := by
  refine List.find?_eq_some_iff_getElem.2 ⟨hi, i.val, by simp, by simp, fun j hj => ?_⟩
  rw [List.getElem_finRange, Bool.not_eq_true']
  exact hlow _ hj

theorem State.freeTanker_of_lowest (h : s.tankerAt t = none) (hlow : ∀ v, v.val < t.val → s.tankerAt v ≠ none) :
    s.freeTanker = some t :=
  find_finRange_of_lowest (by rw [h]; rfl) fun v hv => by simpa [Option.isSome_iff_ne_none] using hlow v hv

theorem State.freeTanker_eq_none : s.freeTanker = none ↔ ∀ v, s.tankerAt v ≠ none := by
  simp [State.freeTanker, List.find?_eq_none]

theorem State.freeTanker_of_exists (h : ∃ v, s.tankerAt v = none) : ∃ v, s.freeTanker = some v := by
  refine Option.ne_none_iff_exists'.1 fun hnone => ?_
  obtain ⟨v, hv⟩ := h
  exact State.freeTanker_eq_none.1 hnone v hv

/-! ### REGISTER TANKER (R14, R15) -/

theorem flatMap_pairs (cs : List (Nat × Nat)) :
    cs.flatMap (fun x => argBytes [(2, x.1), (2, x.2)]) = argBytes (pairArgs cs) := by
  induction cs with
  | nil => rfl
  | cons x cs ih => rw [List.flatMap_cons, ih, pairArgs_cons]; simp

theorem exec_registerTanker {cs : List (Nat × Nat)} (ha : s.admits p .registerTanker) (htag : 1 ≤ tag ∧ tag ≤ 65535)
    (hlen : 1 ≤ cs.length ∧ cs.length ≤ 6) (hlegal : ∀ x ∈ cs, tankerPairLegal x)
    (h : registerTanker tag cs s = (u, a)) :
    exec (.registerTanker p (argBytes [(2, tag), (1, cs.length)] ++ cs.flatMap fun x => argBytes [(2, x.1), (2, x.2)])) s =
      .next (u.reply p 0x20 a) := by
  refine exec_of_owned (r := .registerTanker) ha ((owned_registerTanker_ok ?_).trans h)
  rw [registerArgs_eq htag hlen (congrArg (_ ++ ·) (flatMap_pairs cs)), compArgs_legal hlegal]
  rfl

theorem registerTanker_duplicate {cs : List (Nat × Nat)} (h : ∃ t k, s.tankerAt t = some k ∧ k.tag = tag) :
    registerTanker tag cs s = (s, ⟨.duplicate, 0, []⟩) := by
  obtain ⟨t, k, hk, htag⟩ := h
  have hsome : (s.findTanker tag).isSome = true := by
    rw [Option.isSome_iff_ne_none]
    exact fun hnone => State.findTanker_eq_none.1 hnone t k hk htag
  rw [registerTanker, if_pos hsome]
  rfl

theorem registerTanker_full {cs : List (Nat × Nat)} (hnew : ∀ t k, s.tankerAt t = some k → k.tag ≠ tag)
    (hfull : ∀ t, s.tankerAt t ≠ none) : registerTanker tag cs s = (s, ⟨.full, 0, []⟩) := by
  rw [registerTanker, State.findTanker_eq_none.2 hnew, State.freeTanker_eq_none.2 hfull]
  rfl

theorem registerTanker_unknown {pre : List (Nat × Nat)} {x : Nat × Nat} {post : List (Nat × Nat)}
    (hnew : ∀ t k, s.tankerAt t = some k → k.tag ≠ tag) (hfree : ∃ t, s.tankerAt t = none)
    (hpre : ∀ y ∈ pre, s.unknownCode y.2 = false) (hx : s.unknownCode x.2 = true) :
    registerTanker tag (pre ++ x :: post) s = (s, ⟨.unknownProduct, pre.length + 1, []⟩) := by
  obtain ⟨t, ht⟩ := State.freeTanker_of_exists hfree
  have hindex : (pre ++ x :: post).findIdx? (fun y => s.unknownCode y.2) = some pre.length := by
    rw [List.findIdx?_append, List.findIdx?_eq_none_iff.2 hpre, List.findIdx?_cons, if_pos hx]
    simp
  rw [registerTanker, State.findTanker_eq_none.2 hnew, ht, hindex]
  rfl

theorem State.unknownCode_eq_false {v : Nat} : s.unknownCode v = false ↔ v = 0 ∨ v = 0xFFFF ∨ s.product? v ≠ none := by
  simp only [State.unknownCode, Bool.and_eq_false_iff, bne_eq_false_iff_eq, Option.isNone_eq_false_iff,
    Option.isSome_iff_ne_none]
  tauto

theorem registerTanker_made {cs : List (Nat × Nat)} (hnew : ∀ t k, s.tankerAt t = some k → k.tag ≠ tag)
    (hfree : s.freeTanker = some t) (hknown : ∀ x ∈ cs, x.2 = 0 ∨ x.2 = 0xFFFF ∨ s.product? x.2 ≠ none) :
    registerTanker tag cs s = (makeComps t tag 1 cs (s.setTanker t (some ⟨tag, cs.length, s.clock, none⟩)),
      ⟨.ok, 0, beBytes 1 t.val⟩) := by
  have hindex : cs.findIdx? (fun y => s.unknownCode y.2) = none :=
    List.findIdx?_eq_none_iff.2 fun x hx => State.unknownCode_eq_false.2 (hknown x hx)
  rw [registerTanker, State.findTanker_eq_none.2 hnew, hfree, hindex]
  rfl

/-- The last product a new record is given (R15). -/
theorem State.lastOf_cases (s : State) (v : Nat) :
    (v = 0xFFFF → s.lastOf v = none) ∧ (v = 0 → s.lastOf v = some ⟨0, 0⟩) ∧
      ∀ e, v ≠ 0 → v ≠ 0xFFFF → s.product? v = some e → s.lastOf v = some ⟨v, e.cls⟩ := by
  refine ⟨fun h => if_pos h, fun h => ?_, fun e h0 hF he => ?_⟩
  · rw [State.lastOf, if_neg (by omega), if_pos h]
  · rw [State.lastOf, if_neg hF, if_neg h0, he]
    rfl

/-- Settles O31. -/
theorem registerTankerMakesRecords : Obligations.RegisterTankerMakesRecords := by
  rintro s p tag cs payload ha h1 h2 h3 h4 hlegal rfl
  have hexec : ∀ {u : State} {a : Answer}, registerTanker tag cs s = (u, a) → _ := fun h =>
    exec_registerTanker ha ⟨h1, h2⟩ ⟨h3, h4⟩ hlegal h
  refine ⟨fun h => hexec (registerTanker_duplicate h), fun hnew hfull => hexec (registerTanker_full hnew hfull), ?_,
    fun t0 hnew hfree hlow hknown => ?_⟩
  · rintro i pre x post hnew hfree rfl rfl hpre h0 hF hnone
    refine hexec (registerTanker_unknown hnew hfree hpre (Bool.not_eq_false _ ▸ fun h => ?_))
    obtain h | h | h := State.unknownCode_eq_false.1 h
    · exact h0 h
    · exact hF h
    · exact h hnone
  · refine ⟨_, hexec (registerTanker_made hnew (State.freeTanker_of_lowest hfree hlow) hknown), registered_tankerAt,
      fun j x hx => ⟨s.lastOf x.2, ?_, s.lastOf_cases x.2⟩, fun k hk => ?_, by rw [makeComps_frame]; rfl⟩
    · rw [registered_compAt h4, if_pos ⟨rfl, (List.getElem?_eq_some_iff.1 hx).1⟩, hx]
      rfl
    · obtain ⟨v, j, rfl⟩ := exists_compSlot k
      rw [registered_compAt h4, if_neg]
      rintro ⟨rfl, hj⟩
      exact hk j hj rfl

/-! ### DEPART TANKER (R16, R17) -/

theorem owned_departTanker {b1 b2 : Byte} (htag : tag = 256 * b1.toNat + b2.toNat) :
    s.owned .departTanker p [b1, b2] = departTanker tag s := by
  subst htag
  have htake : checkShort departTankerFields b1 b2 = .ok [beValue [b1, b2]] := by
    simp [checkShort, departTankerFields, takeFields, anyField]
  rw [State.owned]
  show withArgs (checkShort departTankerFields b1 b2) s _ = _
  rw [htake, beValue_pair]
  rfl

theorem exec_departTanker {b1 b2 : Byte} (ha : s.admits p .departTanker) (htag : tag = 256 * b1.toNat + b2.toNat)
    (h : departTanker tag s = (u, a)) : exec (.departTanker p b1 b2) s = .next (u.reply p 0x25 a) :=
  exec_of_owned (r := .departTanker) (args := [b1, b2]) ha ((owned_departTanker htag).trans h)

/-- The search for a held compartment of a tanker, in rising index. -/
theorem State.find_compsOf (s : State) (t : TankerSlot) (P : Comp → Bool) :
    (s.compsOf t).find? P =
      ((List.finRange 6).find? fun j => (s.compAt (compSlot t (j.val + 1))).any P).bind fun j =>
        s.compAt (compSlot t (j.val + 1)) := by
  have hindices : [1, 2, 3, 4, 5, 6] = (List.finRange 6).map fun j => j.val + 1 := by decide
  rw [State.compsOf, hindices, List.filterMap_map, List.find?_filterMap]
  rfl

theorem departTanker_held {k : Tanker} {j : Fin 6} {c : Comp} (hs : s.tablesAgree) (hk : s.tankerAt t = some k)
    (htag : k.tag = tag) (hc : s.compAt (compSlot t (j.val + 1)) = some c) (hheld : c.st.holder ≠ none)
    (hlow : ∀ (i : Fin 6) (d : Comp), i.val < j.val → s.compAt (compSlot t (i.val + 1)) = some d → d.st.holder = none) :
    departTanker tag s = (s, ⟨.held, j.val + 1, []⟩) := by
  have hfind : (s.compsOf t).find? (fun c => c.st.holder.isSome) = some c := by
    rw [State.find_compsOf, find_finRange_of_lowest (i := j) (by simpa [hc, Option.isSome_iff_ne_none] using hheld)]
    · exact hc
    · intro i hi
      rw [Option.any_eq_false]
      intro d hd
      rw [hlow i d hi hd]
      rfl
  have hindex : c.index = j.val + 1 := by
    obtain ⟨-, hoccupied, -⟩ := hs
    obtain ⟨-, -, hslots⟩ := hoccupied t k hk
    obtain ⟨hpresent, habsent⟩ := hslots j
    by_cases hj : j.val < k.count
    · obtain ⟨d, hd, -, hindex⟩ := hpresent hj
      rw [Option.some.inj (hc.symm.trans hd), hindex]
    · exact absurd (hc.symm.trans (habsent (Nat.not_lt.1 hj))) nofun
  rw [departTanker, State.findTanker_of_tag hs hk htag]
  dsimp only
  rw [hfind, ← hindex]
  rfl

theorem departTanker_leaves {k : Tanker} (hs : s.tablesAgree) (hk : s.tankerAt t = some k) (htag : k.tag = tag)
    (hfree : ∀ (j : Fin 6) (c : Comp), s.compAt (compSlot t (j.val + 1)) = some c → c.st.holder = none) :
    departTanker tag s = (((s.dequeueTanker tag).freeTankerSlot t).driveLatches, ⟨.ok, 0, []⟩) := by
  have hfind : (s.compsOf t).find? (fun c => c.st.holder.isSome) = none := by
    have hnone : ((List.finRange 6).find? fun j => (s.compAt (compSlot t (j.val + 1))).any fun c => c.st.holder.isSome) = none :=
      List.find?_eq_none.2 fun j _ => by
        rw [Bool.not_eq_true, Option.any_eq_false]
        intro c hc
        rw [hfree j c hc]
        rfl
    rw [State.find_compsOf, hnone]
    rfl
  rw [departTanker, State.findTanker_of_tag hs hk htag]
  dsimp only
  rw [hfind]
  rfl

theorem State.dequeueTanker_eq (s : State) (tag : Nat) :
    s.dequeueTanker tag = { s with queue := s.queue.filter (fun e => e.tag ≠ tag) } := by
  have hfilter : (s.queue.filter fun e => e.tag != tag) = s.queue.filter (fun e => e.tag ≠ tag) :=
    List.filter_congr fun x _ => by simp [bne, beq_eq_decide]
  rw [State.dequeueTanker, hfilter]

theorem State.freeTankerSlot_frame (s : State) (t : TankerSlot) :
    (s.freeTankerSlot t).queue = s.queue ∧ { s.freeTankerSlot t with tankers := s.tankers, comps := s.comps } = s := by
  simp [State.freeTankerSlot, State.setTanker, State.freeComp]

/-- Settles O32. -/
theorem departTankerRemovesAll : Obligations.DepartTankerRemovesAll := by
  intro s p b1 b2 tag ha hs htag
  refine ⟨fun h => exec_departTanker ha htag (by rw [departTanker, State.findTanker_eq_none.2 h]; rfl),
    fun t k j c hk hkt hc hheld hlow => exec_departTanker ha htag (departTanker_held hs hk hkt hc hheld hlow),
    fun t k hk hkt hfree => ⟨(s.dequeueTanker tag).freeTankerSlot t,
      exec_departTanker ha htag (departTanker_leaves hs hk hkt hfree), State.freeTankerSlot_tankerAt t,
      fun j => (State.freeTankerSlot_compAt t t j).trans (if_pos rfl), fun x hx => ?_,
      ?_, ?_⟩⟩
  · obtain ⟨v, j, rfl⟩ := exists_compSlot x
    rw [State.freeTankerSlot_compAt, if_neg (by rintro rfl; exact hx j rfl)]
    rfl
  · rw [(State.freeTankerSlot_frame ..).1, State.dequeueTanker_eq]
  · exact congrArg (fun u : State => { u with queue := s.queue }) (State.freeTankerSlot_frame (s.dequeueTanker tag) t).2

/-! ### CLEAR YARD (R18) -/

theorem State.follow_lowered {x : Line} (hlow : ∀ f d, s.demand f = some d → d = false)
    (hf : (∃ a, x.func = some (.permit a)) ∨ (∃ q, x.func = some (.washEnable q)) ∨ x.func = some .alarm) :
    s.follow x = { x with latch := false } := by
  have hdriven : ∀ f d, x.func = some f → s.demand f = some d → s.follow x = { x with latch := false } := fun f d hx hd => by
    rw [State.follow, hx]
    dsimp only
    rw [hd, hlow f d hd]
  obtain ⟨a, h⟩ | ⟨q, h⟩ | h := hf
  · exact hdriven _ _ h rfl
  · exact hdriven _ _ h rfl
  · exact hdriven _ _ h rfl

/-- Settles O33. -/
theorem clearYardEmptiesTheYard : Obligations.ClearYardEmptiesTheYard := by
  intro s p b1 b2 ha
  have hdemand : ∀ f d, (clearYard s).1.demand f = some d → d = false := fun f d =>
    State.demand_of_empty clearYard_compAt
  refine ⟨(clearYard s).1, exec_of_owned (r := .clearYard) (args := [b1, b2]) ha rfl, clearYard_tankerAt, clearYard_compAt,
    rfl, hdemand, State.any_records_of_empty clearYard_compAt _, fun l hpermit hwash halarm => ?_, fun l hf => ?_, rfl⟩
  · refine (State.line_driveLatches ..).trans (State.follow_of_no_demand fun f d hf hd => ?_)
    cases f with
    | permit a => exact hpermit a hf
    | washEnable q => exact hwash q hf
    | alarm => exact halarm hf
    | ground a => cases hd
    | overfill a => cases hd
    | rinseProbe q => cases hd
  · refine (State.line_driveLatches ..).trans (State.follow_lowered (fun f d hd => ?_) hf)
    exact hdemand f d ((State.demand_driveLatches _ f).trans hd)

/-! ### REVOKE (R19 to R21) -/

theorem exec_revoke {index : Nat} (ha : s.admits p .revoke) (hn : s.names tag index f) (h : revoke tag index s = (u, a)) :
    exec (.revoke p (addressBytes tag index)) s = .next (u.reply p 0x22 a) :=
  exec_of_owned (r := .revoke) ha ((owned_revoke hn.1 hn.2.1).trans h)

theorem State.loadedClass_of_product {code : Nat} {b : Booking} {e : Product} (h : s.product? code = some e) :
    s.loadedClass code b = e.cls := by
  rw [State.loadedClass, h]

/-- Settles O34. -/
theorem revokeByState : Obligations.RevokeByState := by
  intro s p tag index f ha hn
  obtain ⟨-, -, hf⟩ := id hn
  refine ⟨fun b pl h ph hst => exec_revoke ha hn ?_, fun b pl hst => exec_revoke ha hn ?_,
    fun b pl h r fl hs e hst he => exec_revoke ha hn ?_, fun hcode => exec_revoke ha hn ?_⟩
  · rw [revoke, State.withComp_of_find _ hf, hst]
    rfl
  · rw [revoke, State.withComp_of_find _ hf]
    obtain ⟨h, hst⟩ | ⟨r, hst⟩ := hst <;> rw [hst] <;> rfl
  · rw [revoke, State.withComp_of_find _ hf, hst]
    dsimp only
    rw [State.loadComp, State.loadedClass_of_product he]
    rfl
  · rw [revoke, State.withComp_of_find _ hf]
    split
    case h_1 hst => rw [hst] at hcode; simp [stateCode] at hcode
    case h_2 hst => rw [hst] at hcode; simp [stateCode] at hcode
    case h_3 hst => rw [hst] at hcode; simp [stateCode] at hcode
    case h_4 hst => rw [hst] at hcode; simp [stateCode] at hcode
    all_goals rfl

end Sys2Proof.Machine
end

section
/-! PROOF. The bays and the wash steps: GIVE BACK, UNDOCK, STEP START and WASH SAMPLE (R49, R54, R61, R66 to R79, R85). -/

namespace Sys2Proof.Machine

variable {s u : State} {a : Answer} {p : Port} {tag index : Nat} {f : Found} {c : Comp} {b : Booking} {pl : Plan}
  {ph : WashPhase} {st : WashStep}

/-! ### GIVE BACK (R49, R61) -/

/-- An entry that stands after a part of the queue it is not in. -/
theorem findIdx_append_cons {l r : List Entry} {e : Entry} (h : e ∉ l) : (l ++ e :: r).findIdx (· == e) = l.length := by
  have hnone : ∀ x ∈ l, (x == e) = false := fun x hx => by
    simp only [beq_eq_false_iff_ne]
    rintro rfl
    exact h hx
  rw [List.findIdx_append, List.findIdx_eq_length.2 hnone, if_neg (Nat.lt_irrefl _), List.findIdx_cons]
  simp

theorem giveBack_returned (hf : s.find tag index = some f) (hst : f.comp.st = .washing b pl p ph) :
    giveBack p tag index s = ((s.enqueueHead f.slot f.comp b { pl with silence := 0, mismatch := 0 }).driveLatches,
      ⟨.ok, 0, 2 :: beBytes 1 ((s.atHead b.priority f.comp.entry).findIdx (· == f.comp.entry) + 1)⟩) := by
  rw [giveBack, State.withComp_of_find _ hf, needsHold_of_holder _ (by rw [hst]; rfl), hst]
  rfl

/-! ### UNDOCK (R54) -/

theorem undock_undocked (h : ∀ t k, s.tankerAt t = some k → k.docked ≠ some p) :
    undock p s = (s, ⟨.ok, 0, beBytes 2 0⟩) := by
  rw [undock, State.dockedTanker_eq_none.2 h]
  rfl

theorem undock_empty {t : TankerSlot} {k : Tanker} (hs : s.dockingsAgree) (hk : s.tankerAt t = some k) (hp : k.docked = some p)
    (hempty : ∀ j c, s.compAt j = some c → c.st.holder ≠ some p) :
    undock p s = (s.setTanker t (some { k with docked := none }), ⟨.ok, 0, beBytes 2 k.tag⟩) := by
  rw [undock, State.dockedTanker_of_docked hs hk hp]
  dsimp only
  rw [State.heldBy_eq_nil.2 hempty]
  rfl

/-- The least index of a list that holds it. -/
theorem foldl_min_index {l : List Comp} {m n : Nat} (hle : n ≤ m) (hall : ∀ c ∈ l, n ≤ c.index)
    (hmem : m = n ∨ ∃ c ∈ l, c.index = n) : l.foldl (fun m x => min m x.index) m = n := by
  induction l generalizing m with
  | nil => simpa using hmem
  | cons c l ih =>
    obtain ⟨hc, hl⟩ := List.forall_mem_cons.1 hall
    refine ih (le_min hle hc) hl ?_
    obtain rfl | ⟨d, hd, hdn⟩ := hmem
    · exact .inl (Nat.min_eq_left hc)
    · obtain rfl | hd := List.mem_cons.1 hd
      · exact .inl (hdn ▸ Nat.min_eq_right (hdn ▸ hle))
      · exact .inr ⟨d, hd, hdn⟩

theorem undock_held {t : TankerSlot} {k : Tanker} {j : Slot} (hs : s.dockingsAgree) (hk : s.tankerAt t = some k)
    (hp : k.docked = some p) (hc : s.compAt j = some c) (hheld : c.st.holder = some p)
    (hleast : ∀ i d, s.compAt i = some d → d.st.holder = some p → c.index ≤ d.index) :
    undock p s = (s, ⟨.held, c.index, []⟩) := by
  have hmem : c ∈ s.heldBy p := State.mem_heldBy.2 ⟨⟨j, hc⟩, hheld⟩
  have hall : ∀ d ∈ s.heldBy p, c.index ≤ d.index := fun d hd => by
    obtain ⟨⟨i, hi⟩, hd⟩ := State.mem_heldBy.1 hd
    exact hleast i d hi hd
  rw [undock, State.dockedTanker_of_docked hs hk hp]
  dsimp only
  cases hl : s.heldBy p with
  | nil => rw [hl] at hmem; cases hmem
  | cons d ds =>
    rw [hl] at hmem hall
    obtain ⟨hd, hds⟩ := List.forall_mem_cons.1 hall
    have hmin : ds.foldl (fun m x => min m x.index) d.index = c.index := foldl_min_index hd hds (by
      obtain h | h := List.mem_cons.1 hmem
      · exact .inl (by rw [h])
      · exact .inr ⟨c, h, rfl⟩)
    exact congrArg (fun n => (s, refuse .held n)) hmin

/-- Settles O36. -/
theorem giveBackAndUndock : Obligations.GiveBackAndUndock := by
  refine ⟨fun s p tag index f b pl ph ha ⟨ht, hi, hf⟩ hst => ?_, fun s p b1 b2 ha hs => ?_⟩
  · refine ⟨_, exec_of_owned (r := .giveBack) ha ((owned_giveBack ht hi).trans (giveBack_returned hf hst)), fun hb => ?_,
      fun hb hq hu => ?_⟩
    · rw [hb, State.atHead]
      simp [List.findIdx_cons]
    · have habsent : f.comp.entry ∉ s.queue := fun hin => by
        obtain ⟨-, hqueued, -⟩ := hq
        obtain ⟨c, ql, hc⟩ := (hqueued f.slot f.comp (State.find_compAt hf)).1 hin
        exact absurd (hst.symm.trans hc) nofun
      obtain ⟨-, -, -, hnormal⟩ := entriesJoinTheirGroup s f.comp.entry hu
      rw [hb, hnormal, findIdx_append_cons fun hin => habsent (List.mem_of_mem_filter hin)]
  · exact ⟨fun h => exec_of_owned (r := .undock) (args := [b1, b2]) ha (undock_undocked h),
      fun t k hk hp hempty => exec_of_owned (r := .undock) (args := [b1, b2]) ha (undock_empty hs hk hp hempty),
      fun t k j c hk hp hc hheld hleast =>
        exec_of_owned (r := .undock) (args := [b1, b2]) ha (undock_held hs hk hp hc hheld hleast)⟩

/-! ### STEP START (R66 to R68) -/

theorem Plan.current_eq (h : pl.steps[pl.index - 1]? = some st) : pl.current = st := by
  rw [Plan.current, h]

theorem stepStart_of_washing {step : Nat} (hf : s.find tag index = some f) (hst : f.comp.st = .washing b pl p ph) :
    stepStart p tag index step s =
      if ph = .active then (s, stateRefusal f.comp)
      else if step ≠ pl.index then (s, refuse .sequence pl.index)
      else (startStep f b pl p s, okWith (startBytes pl.started f.comp.faults)) := by
  rw [stepStart, State.withComp_of_find _ hf, needsHold_of_holder _ (by rw [hst]; rfl), hst]

/-- Settles O37. -/
theorem stepStartSetsTheCounts : Obligations.StepStartSetsTheCounts := by
  rintro s p tag index step f b pl ph st act payload ha ⟨ht, hi, hf⟩ hst h1 h6 rfl
  have hexec : ∀ {u : State} {a : Answer}, stepStart p tag index step s = (u, a) → _ := fun h =>
    exec_of_owned (r := .stepStart) ha ((owned_stepStart ht hi ⟨h1, h6⟩).trans h)
  have hstart := stepStart_of_washing (step := step) hf hst
  refine ⟨fun hph => hexec ?_, fun hph hstep => hexec ?_, fun hph hstep hcur hact => hexec ?_⟩
  · rw [hstart, if_pos hph, stateRefusal, hst]
    rfl
  · rw [hstart, if_neg hph, if_pos hstep]
    rfl
  · have hcurrent := Plan.current_eq hcur
    have hstarted : pl.started = { pl with active := act, silence := 0, mismatch := 0 } := by
      rw [Plan.started, hcurrent, ← hact]
    have hbytes : startBytes { pl with active := act, silence := 0, mismatch := 0 } f.comp.faults =
        argBytes [(1, pl.index), (1, mediumCode st.medium), (2, st.dReq), (2, pl.dose), (2, act),
          (2, st.maxActive - act), (1, f.comp.faults)] := by
      have hcurrent' : Plan.current { pl with active := act, silence := 0, mismatch := 0 } = st := hcurrent
      rw [startBytes, hcurrent']
      simp
    rw [hstart, if_neg hph, if_neg (not_not.2 hstep), startStep, hstarted, hbytes]
    rfl

/-! ### WASH SAMPLE: the advance still owed (R85, R131) -/

/-- A step that the sample leaves running takes the advance it owed, unless the advance brings its overrun. -/
theorem Comp.caughtUp_running {q : Plan} {late : Nat} {owes : Bool} (hst : c.st = .washing b q p .active)
    (hsilence : q.silence = 0) (hlate : late = if c.advanceDue = true ∧ q.active + 1 < q.current.maxActive then 1 else 0)
    (howes : owes = (c.advanceDue && decide (q.current.maxActive ≤ q.active + 1))) :
    c.caughtUp = { c with
      st := .washing b { q with active := q.active + late, silence := late } p .active
      advanceDue := owes } := by
  have hx : c.nextExpiry = none ↔ q.active + 1 < q.current.maxActive := by
    rw [Comp.nextExpiry_washing hst]
    omega
  rw [Comp.caughtUp]
  by_cases hdue : c.advanceDue = true ∧ q.active + 1 < q.current.maxActive
  · rw [if_pos ⟨hdue.1, hx.2 hdue.2⟩, Comp.counted_washing hst, hlate, if_pos hdue, howes, hdue.1,
      decide_eq_false (by omega), hsilence]
    rfl
  · rw [if_neg fun h => hdue ⟨h.1, hx.1 h.2⟩, hlate, if_neg hdue, howes]
    have hflag : (c.advanceDue && decide (q.current.maxActive ≤ q.active + 1)) = c.advanceDue := by
      cases hd : c.advanceDue with
      | false => rfl
      | true => simpa using Nat.not_lt.1 fun h => hdue ⟨hd, h⟩
    obtain ⟨level, steps, index, dose, active, silence, mismatch, bay, needs⟩ := q
    obtain rfl : silence = 0 := hsilence
    rw [hflag, Nat.add_zero, ← hst]

theorem Comp.untimed_of_phase (hst : c.st = .washing b pl p ph) (hph : ph ≠ .active) : c.untimed := by
  refine ⟨fun b' pl' q h => hph ?_, fun b' pl' r h => absurd (hst.symm.trans h) nofun⟩
  cases hst.symm.trans h
  rfl

/-- A step that the sample ends owes nothing. -/
theorem Comp.caughtUp_untimed (hc : c.untimed) : c.caughtUp = { c with advanceDue := false } := by
  rw [Comp.caughtUp, hc.nextExpiry, hc.counted]
  split_ifs with hdue
  · rfl
  · obtain ⟨tag, index, capacity, last, performed, faults, st, reading, incident, overflow, due⟩ := c
    cases due with
    | false => rfl
    | true => exact absurd ⟨rfl, rfl⟩ hdue

/-! ### WASH SAMPLE, stage by stage (R70 to R79) -/

theorem washSample_stopped {x : Sample} (hf : s.find tag index = some f) (hst : f.comp.st = .washing b pl p ph)
    (hph : ph ≠ .active) : washSample p tag index x s = (s, ⟨.state, 3, []⟩) := by
  rw [washSample, State.withComp_of_find _ hf, needsHold_of_holder _ (by rw [hst]; rfl), hst]
  cases ph with
  | active => exact absurd rfl hph
  | between => exact congrArg (fun n => (s, refuse .state n)) (by rw [hst]; rfl)
  | stalled _ => exact congrArg (fun n => (s, refuse .state n)) (by rw [hst]; rfl)

theorem washSample_running {x : Sample} (hf : s.find tag index = some f) (hst : f.comp.st = .washing b pl p .active) :
    washSample p tag index x s = takeSample f b pl p x s := by
  rw [washSample, State.withComp_of_find _ hf, needsHold_of_holder _ (by rw [hst]; rfl), hst]

theorem Sample.isClamped_toNat (t T F : Nat) (m : Medium) :
    (Sample.isClamped ⟨t, T, F, m⟩).toNat = if 30 < t ∨ 1500 < T ∨ 600 < F then 1 else 0 := by
  have hiff : Sample.isClamped ⟨t, T, F, m⟩ = true ↔ 30 < t ∨ 1500 < T ∨ 600 < F := by simp [Sample.isClamped, or_assoc]
  split_ifs with h
  · rw [hiff.2 h]
    rfl
  · rw [Bool.eq_false_iff.2 (hiff.not.2 h)]
    rfl

theorem gated_iff {x : Sample} : gated st x = true ↔ x.temperature < st.tMin ∨ x.flow < st.fMin ∨ x.interval = 0 := by
  simp [gated, or_assoc]

theorem sampleBytes_eq (notes wt inc dose mismatch : Nat) (q : CompState) (index : Nat) :
    sampleBytes notes wt inc dose mismatch q index = argBytes [(1, notes), (1, wt), (2, inc), (2, dose), (1, mismatch),
      (1, stateCode q), (1, phaseCode q), (1, index)] := by
  simp [sampleBytes]

theorem exec_washSample {t T F : Nat} {m : Medium} (ha : s.admits p .washSample) (hn : s.names tag index f) (h1 : t ≤ 255)
    (h2 : T ≤ 65535) (h3 : F ≤ 65535) (h : washSample p tag index ⟨t, T, F, m⟩ s = (u, a)) :
    exec (.washSample p (addressBytes tag index ++ argBytes [(1, t), (2, T), (2, F), (1, mediumCode m)])) s =
      .next (u.reply p 0x32 a) := by
  refine exec_of_owned (r := .washSample) ha ((owned_washSample hn.1 hn.2.1 h1 h2 h3 (mediumCode_range m)).trans ?_)
  rw [mediumOfCode_mediumCode]
  exact h

section Stages

variable {late wt inc dose : Nat} {owes food : Bool} (k : Bool)

/-- What a running step owes once its sample is taken: an advance counted at once, or an overrun that stays owed. -/
def owesAfter (c : Comp) (pl : Plan) (late : Nat) (owes : Bool) : Prop :=
  late = (if c.advanceDue = true ∧ pl.active + 1 < pl.current.maxActive then 1 else 0) ∧
    owes = (c.advanceDue && decide (pl.current.maxActive ≤ pl.active + 1))

/-- A sample that leaves the step running. -/
theorem caughtUp_of_owes (h : owesAfter f.comp pl late owes) (dose mismatch : Nat) :
    (f.comp.withSt (.washing b { pl with silence := 0, mismatch := mismatch, dose := dose } p .active)).caughtUp =
      { f.comp with
        st := .washing b { pl with active := pl.active + late, silence := late, mismatch := mismatch, dose := dose } p .active
        advanceDue := owes } :=
  Comp.caughtUp_running
    (c := f.comp.withSt (.washing b { pl with silence := 0, mismatch := mismatch, dose := dose } p .active))
    (q := { pl with silence := 0, mismatch := mismatch, dose := dose }) rfl rfl h.1 h.2

theorem mismatched_runs (h : owesAfter f.comp pl late owes) (hm : pl.mismatch + 1 < 3) :
    mismatched f b pl p k s = ((s.setComp f.slot { f.comp with
      st := .washing b { pl with active := pl.active + late, silence := late, mismatch := pl.mismatch + 1 } p .active
      advanceDue := owes }).driveLatches,
      ⟨.ok, 0, argBytes [(1, k.toNat + 2), (1, 0), (2, 0), (2, pl.dose), (1, pl.mismatch + 1), (1, 3), (1, 2),
        (1, pl.index)]⟩) := by
  have hc := caughtUp_of_owes (b := b) (p := p) h pl.dose (pl.mismatch + 1)
  rw [mismatched, if_neg (show ¬ Config.mismatchLimit ≤ pl.mismatch + 1 from Nat.not_le.2 hm)]
  dsimp only
  rw [hc, sampleBytes_eq]
  rfl

theorem mismatched_stalls (hm : 3 ≤ pl.mismatch + 1) :
    mismatched f b pl p k s = ((s.setComp f.slot { f.comp with
      st := .washing b { pl with silence := 0, mismatch := pl.mismatch + 1 } p (.stalled .medium)
      advanceDue := false }).driveLatches,
      ⟨.ok, 0, argBytes [(1, k.toNat + 2), (1, 0), (2, 0), (2, pl.dose), (1, pl.mismatch + 1), (1, 3), (1, 5),
        (1, pl.index)]⟩) := by
  have hc := Comp.caughtUp_untimed (c := f.comp.withSt (.washing b { pl with silence := 0, mismatch := pl.mismatch + 1 } p
    (.stalled .medium))) (Comp.untimed_of_phase rfl nofun)
  rw [mismatched, if_pos (show Config.mismatchLimit ≤ pl.mismatch + 1 from hm)]
  dsimp only
  rw [hc, sampleBytes_eq]
  rfl

theorem gatedSample_eq (h : owesAfter f.comp pl late owes) :
    gatedSample f b pl p k s = (s.setComp f.slot { f.comp with
      st := .washing b { pl with active := pl.active + late, silence := late, mismatch := 0 } p .active
      advanceDue := owes },
      ⟨.ok, 0, argBytes [(1, k.toNat + 4), (1, 0), (2, 0), (2, pl.dose), (1, 0), (1, 3), (1, 2), (1, pl.index)]⟩) := by
  have hc := caughtUp_of_owes (b := b) (p := p) h pl.dose 0
  rw [gatedSample]
  dsimp only
  rw [hc, sampleBytes_eq]
  rfl

theorem earningSample_eq (h : owesAfter f.comp pl late owes) :
    earningSample f b pl p k wt inc dose s = (s.setComp f.slot { f.comp with
      st := .washing b { pl with active := pl.active + late, silence := late, mismatch := 0, dose := dose } p .active
      advanceDue := owes },
      ⟨.ok, 0, argBytes [(1, k.toNat), (1, wt), (2, inc), (2, dose), (1, 0), (1, 3), (1, 2), (1, pl.index)]⟩) := by
  have hc := caughtUp_of_owes (b := b) (p := p) h dose 0
  rw [earningSample]
  dsimp only
  rw [hc, sampleBytes_eq]
  rfl

theorem stepComplete_eq (hfood : food = (pl.foodBay && (s.capsOf p).food)) :
    stepComplete f b pl p k wt inc dose s = ((s.setComp f.slot { f.comp with
      st := .washing b ⟨pl.level, pl.steps, pl.index + 1, 0, 0, 0, 0, food, pl.needs⟩ p .between
      advanceDue := false }).driveLatches,
      ⟨.done, 0, argBytes [(1, k.toNat), (1, wt), (2, inc), (2, dose), (1, 0), (1, 3), (1, 1), (1, pl.index + 1)]⟩) := by
  have hc := Comp.caughtUp_untimed (c := f.comp.withSt (.washing b (pl.nextStep food) p .between))
    (Comp.untimed_of_phase rfl nofun)
  rw [stepComplete, State.foodBayAfter, ← hfood]
  dsimp only
  rw [hc, sampleBytes_eq]
  rfl

theorem planComplete_eq (hfood : food = (pl.foodBay && (s.capsOf p).food)) :
    planComplete f b pl p k wt inc dose s = ((s.setComp f.slot { f.comp with
      st := .washed b { pl with dose := dose, silence := 0, mismatch := 0, foodBay := food }
      performed := pl.level
      advanceDue := false }).driveLatches,
      ⟨.done, 0, argBytes [(1, k.toNat), (1, wt), (2, inc), (2, dose), (1, 0), (1, 4), (1, 0), (1, pl.index)]⟩) := by
  have hc := Comp.caughtUp_untimed (c := { f.comp with st := .washed b (pl.finished dose food), performed := pl.level })
    ⟨nofun, nofun⟩
  rw [planComplete, State.foodBayAfter, ← hfood]
  dsimp only
  rw [hc, sampleBytes_eq]
  rfl

end Stages

/-- Settles O38. -/
theorem washSampleEarnsDose : Obligations.WashSampleEarnsDose := by
  rintro s p tag index t T F m f b pl ph st t' T' F' cl w inc dose late food owes payload ha hn hst h1 h2 h3 rfl
    rfl rfl rfl hcl hw hinc hdose hfood hlate howes
  refine ⟨fun hph => exec_washSample ha hn h1 h2 h3 (washSample_stopped hn.2.2 hst hph), fun hph hcur => ?_⟩
  subst hph
  obtain rfl := Plan.current_eq hcur
  have howed : owesAfter f.comp pl late owes := ⟨hlate, howes⟩
  have hexec : ∀ {u : State} {a : Answer}, takeSample f b pl p ⟨t, T, F, m⟩ s = (u, a) →
      exec (.washSample p (addressBytes tag index ++ argBytes [(1, t), (2, T), (2, F), (1, mediumCode m)])) s =
        .next (u.reply p 0x32 a) := fun h =>
    exec_washSample ha hn h1 h2 h3 ((washSample_running hn.2.2 hst).trans h)
  have hclamped := (Sample.isClamped_toNat t T F m).trans hcl.symm
  have hwt : weight pl.current (Sample.clamped ⟨t, T, F, m⟩) = w := hw.symm
  have hgain : increment pl.current (Sample.clamped ⟨t, T, F, m⟩) = inc := by rw [increment, hwt, hinc]; rfl
  have hsum : addDose pl.dose inc = dose := hdose.symm
  have hopen : min T 1500 ≥ pl.current.tMin → min F 600 ≥ pl.current.fMin → min t 30 ≠ 0 →
      ¬ gated pl.current (Sample.clamped ⟨t, T, F, m⟩) = true := fun hT hF ht h => by
    obtain h | h | h := gated_iff.1 h
    · exact absurd h (Nat.not_lt.2 hT)
    · exact absurd h (Nat.not_lt.2 hF)
    · exact ht h
  refine ⟨fun hm hlow => hexec ?_, fun hm hhigh => hexec ?_, fun hm hgate => hexec ?_, fun hm hT hF ht hd => hexec ?_,
    fun hm hT hF ht hd hlast => hexec ?_, fun hm hT hF ht hd hlast => hexec ?_⟩
  · rw [takeSample, if_pos hm, mismatched_runs _ howed hlow, hclamped]
  · rw [takeSample, if_pos hm, mismatched_stalls _ hhigh, hclamped]
  · rw [takeSample, if_neg (not_not.2 hm), if_pos (gated_iff.2 hgate), gatedSample_eq _ howed, hclamped]
  · rw [takeSample, if_neg (not_not.2 hm), if_neg (hopen hT hF ht), hgain, hsum, if_pos hd, hwt, earningSample_eq _ howed,
      hclamped]
  · rw [takeSample, if_neg (not_not.2 hm), if_neg (hopen hT hF ht), hgain, hsum, if_neg (Nat.not_lt.2 hd), if_pos hlast, hwt,
      stepComplete_eq _ hfood, hclamped]
  · rw [takeSample, if_neg (not_not.2 hm), if_neg (hopen hT hF ht), hgain, hsum, if_neg (Nat.not_lt.2 hd),
      if_neg (Nat.not_lt.2 hlast), hwt, planComplete_eq _ hfood, hclamped]

end Sys2Proof.Machine
end

section
/-! PROOF. Inspection, clause by clause (R89 to R101). -/

namespace Sys2Proof.Machine

variable {s u : State} {a : Answer} {p : Port} {tag index reported ctag : Nat} {f : Found} {b : Booking} {pl : Plan}
  {x : Probe} {y : ProbeReading} {r : Reading}

/-! ### The probe record (R93, R95) -/

theorem boolByte_eq (k : Bool) : [boolByte k] = beBytes 1 (if k then 1 else 0) := by cases k <;> rfl

theorem State.probeBound_of_probe (hb : s.bindingsAgree) (h : s.probe p = some x) : s.probeBound p = true :=
  State.probeBound_iff.2 ((hb.2 p).1 (by rw [h]; rfl))

theorem State.probeBound_of_none (h : ∀ l, (s.line l).func ≠ some (.rinseProbe p)) : s.probeBound p = false :=
  Bool.eq_false_iff.2 fun hbound => (State.probeBound_iff.1 hbound).elim h

theorem State.settledReading_ready (h : s.probe p = some x) (hr : x.reading = some y) (hp : x.pendingMark = false) :
    s.settledReading p = some y.conductivity := by
  rw [State.settledReading, h]
  dsimp only
  rw [hp, hr]
  rfl

theorem State.settledReading_settling (h : s.probe p = some x) (hs : x.reading = none ∨ x.pendingMark = true) :
    s.settledReading p = none := by
  rw [State.settledReading, h]
  dsimp only
  obtain hr | hp := hs
  · rw [hr]
    exact ite_self _
  · rw [if_pos hp]

/-- The probe byte of INSPECT BEGIN (R90): 0 without a probe, 3 with one that is ready, 1 with one that is settling. -/
theorem State.probeByte_eq (hb : s.bindingsAgree) {probe : Nat}
    (h0 : (∀ l, (s.line l).func ≠ some (.rinseProbe p)) → probe = 0)
    (h3 : ∀ x r, s.probe p = some x → x.reading = some r → x.pendingMark = false → probe = 3)
    (h1 : ∀ x, s.probe p = some x → (x.reading = none ∨ x.pendingMark = true) → probe = 1) : s.probeByte p = probe := by
  rw [State.probeByte]
  cases hp : s.probe p with
  | none =>
    have hfree : ∀ l, (s.line l).func ≠ some (.rinseProbe p) := fun l hl => by
      have := (hb.2 p).2 ⟨l, hl⟩
      rw [hp] at this
      cases this
    rw [State.probeBound_of_none hfree, h0 hfree]
    rfl
  | some x =>
    rw [State.probeBound_of_probe hb hp, if_pos rfl]
    by_cases hs : x.reading = none ∨ x.pendingMark = true
    · rw [State.settledReading_settling hp hs, h1 x hp hs]
      rfl
    · obtain ⟨hr, hpending⟩ := not_or.1 hs
      obtain ⟨y, hy⟩ := Option.ne_none_iff_exists'.1 hr
      have hready := Bool.not_eq_true _ ▸ hpending
      rw [State.settledReading_ready hp hy hready, h3 x y hp hy hready]
      rfl

/-! ### INSPECT BEGIN and INSPECT CANCEL (R89 to R91) -/

theorem inspectBegin_washed (hf : s.find tag index = some f) (hst : f.comp.st = .washed b pl) :
    inspectBegin p tag index s = (s.setComp f.slot { f.comp with st := .inspecting b pl p }, ⟨.ok, 0,
      argBytes [(2, b.target), (1, b.cls.val), (2, (s.classLimit b.cls).conductivity),
        (1, (s.classLimit b.cls).validityHours), (1, f.comp.performed), (1, if pl.foodBay then 1 else 0),
        (1, s.probeByte p)]⟩) := by
  have hbytes : beginBytes s p f.comp b pl = argBytes [(2, b.target), (1, b.cls.val), (2, (s.classLimit b.cls).conductivity),
      (1, (s.classLimit b.cls).validityHours), (1, f.comp.performed), (1, if pl.foodBay then 1 else 0),
      (1, s.probeByte p)] := by
    rw [beginBytes, boolByte_eq]
    simp
  rw [inspectBegin, State.withComp_of_find _ hf, needsNoHolder_of_none _ (by rw [hst]; rfl), hst]
  exact congrArg (fun bytes => (_, okWith bytes)) hbytes

theorem inspectBegin_refused (hf : s.find tag index = some f) (hfree : f.comp.st.holder = none)
    (hcode : stateCode f.comp.st ≠ 4) : inspectBegin p tag index s = (s, ⟨.state, stateCode f.comp.st, []⟩) := by
  rw [inspectBegin, State.withComp_of_find _ hf, needsNoHolder_of_none _ hfree]
  split
  next hst => exact absurd (by rw [hst]; rfl) hcode
  next => rfl

theorem inspectCancel_inspecting (hf : s.find tag index = some f) (hst : f.comp.st = .inspecting b pl p) :
    inspectCancel p tag index s = (s.setComp f.slot { f.comp with st := .washed b pl }, ⟨.ok, 0, [4]⟩) := by
  rw [inspectCancel, State.withComp_of_find _ hf, needsHold_of_holder _ (by rw [hst]; rfl), hst]
  rfl

/-- Settles O39. -/
theorem inspectBeginAndCancel : Obligations.InspectBeginAndCancel := by
  rintro s p tag index f b pl ⟨ht, hi, hf⟩ hb
  refine ⟨fun probe ha hst h0 h3 h1 => ?_, fun ha hfree hcode => ?_, fun ha hst => ?_⟩
  · obtain rfl := State.probeByte_eq hb h0 h3 h1
    exact exec_of_owned (r := .inspectBegin) ha ((owned_inspectBegin ht hi).trans (inspectBegin_washed hf hst))
  · exact exec_of_owned (r := .inspectBegin) ha ((owned_inspectBegin ht hi).trans (inspectBegin_refused hf hfree hcode))
  · exact exec_of_owned (r := .inspectCancel) ha ((owned_inspectCancel ht hi).trans (inspectCancel_inspecting hf hst))

/-! ### INSPECT RESULT (R92 to R101) -/

theorem inspectResult_settling {pass : Bool} (hf : s.find tag index = some f) (hst : f.comp.st = .inspecting b pl p)
    (hd : s.deciding p reported = none) :
    inspectResult p tag index pass reported ctag s = (s, ⟨.settling, s.settlingDetail p, []⟩) := by
  rw [inspectResult, State.withComp_of_find _ hf, needsHold_of_holder _ (by rw [hst]; rfl), hst]
  dsimp only
  rw [hd]
  rfl

theorem inspectResult_deciding {pass : Bool} (hf : s.find tag index = some f) (hst : f.comp.st = .inspecting b pl p)
    (hd : s.deciding p reported = some r) :
    inspectResult p tag index pass reported ctag s = decideResult f b pl p r pass reported ctag s := by
  rw [inspectResult, State.withComp_of_find _ hf, needsHold_of_holder _ (by rw [hst]; rfl), hst]
  dsimp only
  rw [hd]

theorem State.deciding_settling (hb : s.bindingsAgree) (h : s.probe p = some x)
    (hs : x.reading = none ∨ x.pendingMark = true) : s.deciding p reported = none := by
  rw [State.deciding, if_pos (State.probeBound_of_probe hb h), State.settledReading_settling h hs]
  rfl

/-- The conductivity that decides (R92, R93): the reported one after its clamp, or that of the probe that is bound. -/
theorem State.deciding_eq (hb : s.bindingsAgree)
    (h : (∀ l, (s.line l).func ≠ some (.rinseProbe p)) ∧ r = ⟨min reported 20000, .reported⟩ ∨
      ∃ x y, s.probe p = some x ∧ x.pendingMark = false ∧ x.reading = some y ∧ r = ⟨y.conductivity, .probe⟩) :
    s.deciding p reported = some r := by
  rw [State.deciding]
  obtain ⟨hfree, rfl⟩ | ⟨x, y, hx, hp, hy, rfl⟩ := h
  · rw [State.probeBound_of_none hfree]
    rfl
  · rw [State.probeBound_of_probe hb hx, if_pos rfl, State.settledReading_ready hx hy hp]
    rfl

theorem resultBytes_eq (s : State) (verdict reported : Nat) (b : Booking) (r : Reading) (state faults : Nat) :
    resultBytes s verdict reported b r state faults = argBytes [(1, verdict), (1, if 20000 < reported then 1 else 0),
      (2, r.conductivity), (1, sourceCode r.source), (2, (s.classLimit b.cls).conductivity), (1, state), (1, faults)] := by
  simp [resultBytes]

theorem decideResult_pass (hr : r.conductivity ≤ (s.classLimit b.cls).conductivity) :
    decideResult f b pl p r true reported ctag s = inspectionPass f b pl r reported ctag s := by
  rw [decideResult, if_pos (by simpa using hr)]

theorem decideResult_fail {pass : Bool} (h : pass = false ∨ (s.classLimit b.cls).conductivity < r.conductivity) :
    decideResult f b pl p r pass reported ctag s =
      if 2 ≤ f.comp.faults then blockByInspection f b pl p r reported s
      else if pl.steps = [] then levelZeroFail f b pl r reported s else rewash f b pl r reported s := by
  have hfail : ¬ (pass && decide (r.conductivity ≤ (s.classLimit b.cls).conductivity)) = true := by
    rw [Bool.and_eq_true, decide_eq_true_iff]
    rintro ⟨hpass, hr⟩
    obtain h | h := h
    · exact Bool.false_ne_true (h.symm.trans hpass)
    · omega
  rw [decideResult, if_neg hfail]
  exact if_congr (by simp [Config.faultLimit]) rfl (if_congr List.isEmpty_iff rfl rfl)

/-- The place of a compartment that joins the tail of URGENT (R48). -/
theorem findIdx_atTail_urgent {e : Entry} (hu : s.urgentFirst) (habsent : e ∉ s.queue) :
    (s.atTail .urgent e).findIdx (· == e) = (s.queue.filter s.isUrgent).length := by
  obtain ⟨hurgent, -⟩ := entriesJoinTheirGroup s e hu
  rw [hurgent, findIdx_append_cons fun hin => habsent (List.mem_of_mem_filter hin)]

theorem rewash_eq : rewash f b pl r reported s = (s.enqueueTail f.slot
      { f.comp with reading := some r, faults := f.comp.faults + 1, performed := 0 } { b with priority := .urgent }
      { pl with index := 1, dose := 0, active := 0, silence := 0, mismatch := 0, foodBay := true },
    ⟨.ok, 0, resultBytes s 2 reported b r 2 (f.comp.faults + 1) ++
      argBytes [(1, (s.atTail .urgent f.comp.entry).findIdx (· == f.comp.entry) + 1)]⟩) := by
  rw [argBytes_cons, argBytes_nil, List.append_nil]
  rfl

/-- Settles O40. -/
theorem inspectResultDecides : Obligations.InspectResultDecides := by
  rintro s p tag index v cond ctag f b pl r lim head payload ha ⟨ht, hi, hf⟩ hb hst hv hcond h1 h2 rfl rfl
  have hexec : ∀ {u : State} {a : Answer}, inspectResult p tag index (v == 1) cond ctag s = (u, a) →
      exec (.inspectResult p (addressBytes tag index ++ argBytes [(1, v), (2, cond), (3, ctag)])) s =
        .next (u.reply p 0x41 a) := fun h =>
    exec_of_owned (r := .inspectResult) ha ((owned_inspectResult ht hi (by omega) hcond ⟨h1, h2⟩).trans h)
  refine ⟨fun x hx hp => hexec ?_, fun x hx hp hr => hexec ?_, fun hr hhead => ?_⟩
  · rw [inspectResult_settling hf hst (State.deciding_settling hb hx (.inr hp)), State.settlingDetail, hx]
    exact congrArg (fun d => (s, (⟨.settling, d, []⟩ : Answer))) (if_pos hp)
  · rw [inspectResult_settling hf hst (State.deciding_settling hb hx (.inl hr)), State.settlingDetail, hx]
    exact congrArg (fun d => (s, (⟨.settling, d, []⟩ : Answer))) (if_neg (by simp [hp]))
  · have hdecided := inspectResult_deciding (ctag := ctag) (pass := v == 1) hf hst (State.deciding_eq (reported := cond) hb hr)
    have hfail : (v = 2 ∨ (s.classLimit b.cls).conductivity < r.conductivity) →
        ((v == 1) = false ∨ (s.classLimit b.cls).conductivity < r.conductivity) ∧
          ∀ state faults, resultBytes s 2 cond b r state faults = argBytes (head state faults) := fun h => by
      refine ⟨h.imp_left fun hv => by rw [hv]; rfl, fun state faults => ?_⟩
      rw [resultBytes_eq, hhead, if_neg (c := v = 1 ∧ r.conductivity ≤ (s.classLimit b.cls).conductivity) (by omega)]
    refine ⟨fun hv1 hle => hexec ?_, fun h hfaults hsteps => ?_, fun h hfaults hsteps => hexec ?_, fun h hfaults => hexec ?_⟩
    · have hbytes : resultBytes s 1 cond b r 6 f.comp.faults = argBytes (head 6 f.comp.faults) := by
        rw [resultBytes_eq, hhead, if_pos (show v = 1 ∧ r.conductivity ≤ (s.classLimit b.cls).conductivity from ⟨hv1, hle⟩)]
      rw [hdecided, hv1]
      show decideResult f b pl p r true cond ctag s = _
      rw [decideResult_pass hle, inspectionPass, hbytes, argBytes_append]
      simp [okWith, State.grant]
    · obtain ⟨hverdict, hbytes⟩ := hfail h
      have hrewash := hdecided.trans ((decideResult_fail hverdict).trans
        ((if_neg (Nat.not_le.2 hfaults)).trans (if_neg hsteps)))
      rw [rewash_eq, hbytes, ← argBytes_append] at hrewash
      refine ⟨_, hexec hrewash, fun hq hu => congrArg (· + 1) (findIdx_atTail_urgent hu fun hin => ?_)⟩
      obtain ⟨-, hqueued, -⟩ := hq
      obtain ⟨c, ql, hc⟩ := (hqueued f.slot f.comp (State.find_compAt hf)).1 hin
      exact absurd (hst.symm.trans hc) nofun
    · obtain ⟨hverdict, hbytes⟩ := hfail h
      rw [hdecided, decideResult_fail hverdict, if_neg (Nat.not_le.2 hfaults), if_pos hsteps, levelZeroFail, hbytes,
        argBytes_append]
      rfl
    · obtain ⟨hverdict, hbytes⟩ := hfail h
      rw [hdecided, decideResult_fail hverdict, if_pos hfaults.ge, blockByInspection, hbytes, argBytes_append]
      rfl

end Sys2Proof.Machine
end

section
/-! PROOF. Arms and fills: MAP ARM, FILL VOLUME, FILL RESUME and FILL END (R108, R109, R117, R118, R122 to R124). -/

namespace Sys2Proof.Machine

variable {s u : State} {a : Arm} {p : Port} {q : Option Port} {tag index sent : Nat} {f : Found} {c : Comp} {b : Booking}
  {pl : Plan} {r : Release} {fl : Fill} {h : HaltSet}

/-! ### MAP ARM (R108, R109) -/

/-- A short request with two arguments of one byte. -/
theorem checkShort_bytes {x y : Field} (hx : x.width = 1) (hy : y.width = 1) (b1 b2 : Byte) :
    checkShort [x, y] b1 b2 =
      if x.legal [] b1.toNat = true then
        if y.legal [b1.toNat] b2.toNat = true then .ok [b1.toNat, b2.toNat] else .error 2
      else .error 1 := by
  simp only [checkShort, takeFields, hx, hy, List.length_cons, List.length_nil, List.take_succ_cons, List.take_zero,
    List.drop_succ_cons, List.drop_zero, beValue_one, List.nil_append, List.cons_append]
  split_ifs <;> simp_all

theorem checkShort_mapArmFields (b1 b2 : Byte) :
    checkShort (mapArmFields s) b1 b2 =
      if 1 ≤ b1.toNat ∧ b1.toNat ≤ 4 then
        if b2.toNat = 0 ∨ ∃ x, stationPort b2.toNat = some x ∧ s.role x = .fill then .ok [b1.toNat, b2.toNat] else .error 2
      else .error 1 := by
  rw [mapArmFields, checkShort_bytes rfl rfl]
  simp [field, Option.any_eq_true]

theorem owned_mapArm (b1 b2 : Byte) : s.owned .mapArm p [b1, b2] =
    withArgs (checkShort (mapArmFields s) b1 b2) s fun vs => mapArm (armOfNumber (arg vs 1)) (stationPort (arg vs 2)) s := rfl

theorem owned_mapArm_ok {b1 b2 : Byte} (h1 : b1.toNat = a.val + 1) (h2 : b2.toNat = portCode q)
    (hq : ∀ x, q = some x → x ≠ .A ∧ s.role x = .fill) : s.owned .mapArm p [b1, b2] = mapArm a q s := by
  have hlt := a.isLt
  have hport : stationPort b2.toNat = q := by
    rw [h2]
    cases q with
    | none => rfl
    | some x => exact stationPort_portLetter (hq x rfl).1
  have hlegal : b2.toNat = 0 ∨ ∃ x, stationPort b2.toNat = some x ∧ s.role x = .fill := by
    rw [hport]
    cases q with
    | none => exact .inl h2
    | some x => exact .inr ⟨x, rfl, (hq x rfl).2⟩
  rw [owned_mapArm, checkShort_mapArmFields, if_pos (by omega), if_pos hlegal, withArgs_ok]
  show mapArm (armOfNumber b1.toNat) (stationPort b2.toNat) s = _
  rw [hport, h1, armOfNumber_succ]

theorem State.boundLine_isSome {fn : Func} : s.boundLine fn ≠ none ↔ ∃ l, (s.line l).func = some fn := by
  rw [Ne, State.boundLine_eq_none]
  simp

theorem State.notEquipped_iff : s.notEquipped a p = none ↔ s.armPort a = some p ∧
    (∃ l, (s.line l).func = some (.ground a)) ∧ (∃ l, (s.line l).func = some (.permit a)) ∧ s.lock = true := by
  rw [State.notEquipped, ← State.boundLine_isSome, ← State.boundLine_isSome]
  split_ifs with h1 h2 h3 h4 <;> simp_all

theorem State.armPort_mapArmTo (s : State) (a : Arm) (q : Option Port) (x : Arm) :
    (s.mapArmTo a q).armPort x = if x = a then q else s.armPort x := by
  simp only [State.armPort, State.mapArmTo, Fin.getElem_fin, Vector.getElem_set, Fin.val_inj, eq_comm (a := a)]

/-- The arm just mapped is equipped when its lines are bound and the lock is set (R109). -/
theorem State.equippedFor_mapArmTo : (s.mapArmTo a q).equippedFor a q = true ↔ q ≠ none ∧
    (∃ l, (s.line l).func = some (.ground a)) ∧ (∃ l, (s.line l).func = some (.permit a)) ∧ s.lock = true := by
  rw [State.equippedFor]
  cases q with
  | none => simp
  | some p =>
    rw [Option.any_some, Option.isNone_iff_eq_none, State.notEquipped_iff, State.armPort_mapArmTo, if_pos rfl]
    simp only [true_and, ne_eq, reduceCtorEq, not_false_eq_true]
    exact Iff.rfl

theorem mapArm_free (hfree : ∀ k c f h, s.compAt k = some c → c.st.fill = some (f, h) → f.arm ≠ a) :
    mapArm a q s = (s.mapArmTo a q,
      ⟨.ok, 0, beBytes 1 (portCode q) ++ beBytes 1 (if (s.mapArmTo a q).equippedFor a q then 1 else 0)⟩) := by
  rw [mapArm, State.fillOn_eq_none.2 hfree]
  dsimp only
  rw [boolByte_eq]
  rfl

/-- Settles O41. -/
theorem mapArmUnlessInUse : Obligations.MapArmUnlessInUse := by
  intro s p b1 b2 a q eq ha
  have hlt := a.isLt
  have hexec : ∀ {u : State} {x : Answer}, s.owned .mapArm p [b1, b2] = (u, x) →
      exec (.mapArm p b1 b2) s = .next (u.reply p 0x1C x) := exec_of_owned (r := .mapArm) (args := [b1, b2]) ha
  refine ⟨fun h => hexec ?_, fun h1 h2 h => hexec ?_, fun h1 h2 hq => ⟨fun k c f h x hone hk hf harm hx => hexec ?_,
    fun hfree heq hbit => ⟨s.mapArmTo a q, hexec ?_, s.armPort_mapArmTo a q, rfl⟩⟩⟩
  · rw [owned_mapArm, checkShort_mapArmFields, if_neg (by omega)]
    rfl
  · have hillegal : ¬ (b2.toNat = 0 ∨ ∃ x, stationPort b2.toNat = some x ∧ s.role x = .fill) := by
      rintro (h0 | ⟨x, hx, hfill⟩)
      · exact h2 (BitVec.eq_of_toNat_eq h0)
      · obtain ⟨hletter, hA⟩ := stationPort_eq_some hx
        exact h x hA hletter hfill
    rw [owned_mapArm, checkShort_mapArmFields, if_pos (by omega), if_neg hillegal]
    rfl
  · rw [owned_mapArm_ok h1 h2 hq, mapArm, State.fillOn_of_fill hone hk hf harm]
    dsimp only
    rw [hx]
    rfl
  · have hb2 : beBytes 1 (portCode q) = [b2] := by
      rw [← h2]
      simp [beBytes]
    have hflag : (if (s.mapArmTo a q).equippedFor a q then 1 else 0) = eq := by
      split_ifs with hequipped
      · exact (heq.2 (State.equippedFor_mapArmTo.1 hequipped)).symm
      · exact (hbit.resolve_right fun h1 => hequipped (State.equippedFor_mapArmTo.2 (heq.1 h1))).symm
    rw [owned_mapArm_ok h1 h2 hq, mapArm_free hfree, hb2, hflag]

/-! ### FILL VOLUME (R117, R118) -/

theorem deliveredCount_eq (stored sent : Nat) :
    deliveredCount stored sent = if min sent 65535 < stored then stored else min sent 65535 := by
  unfold deliveredCount
  split_ifs <;> omega

theorem countNotes_eq (stored sent : Nat) :
    countNotes stored sent = (if 65535 < sent then 1 else 0) + if min sent 65535 < stored then 8 else 0 := by
  unfold countNotes noteBits
  split_ifs with h1 h2 h2 <;> simp [h1, h2]

theorem haltBits_eq_zero {h : HaltSet} : haltBits h = 0 ↔ h = ⟨false, false, false⟩ := by
  obtain ⟨limit, ground, overfill⟩ := h
  revert limit ground overfill
  decide

theorem fillPhaseCode_eq (h : HaltSet) :
    fillPhaseCode h = if h = ⟨false, false, false⟩ then 0x10 else 0x20 + haltBits h := by
  unfold fillPhaseCode
  exact if_congr haltBits_eq_zero rfl rfl

theorem volumeBytes_eq (notes : Nat) (fl : Fill) (h : HaltSet) : volumeBytes notes fl h =
    argBytes [(1, notes), (2, fl.delivered), (2, fl.limit), (2, fl.limit - fl.delivered),
      (1, if h = ⟨false, false, false⟩ then 0x10 else 0x20 + haltBits h)] := by
  rw [volumeBytes, fillPhaseCode_eq]
  simp

theorem fillVolume_filling (hf : s.find tag index = some f) (hst : f.comp.st = .filling b pl p r fl h) {count : Nat}
    {g : HaltSet} (hcount : deliveredCount fl.delivered sent = count)
    (hg : g = if fl.limit ≤ count then { h with limit := true } else h) :
    fillVolume p tag index sent s =
      ((s.setComp f.slot { f.comp with st := .filling b pl p r { fl with delivered := count } g }).driveLatches,
        ⟨if fl.limit ≤ count then .limit else .ok, 0,
          volumeBytes (countNotes fl.delivered sent) { fl with delivered := count } g⟩) := by
  subst hcount hg
  rw [fillVolume, State.withComp_of_find _ hf, needsHold_of_holder _ (by rw [hst]; rfl), hst]
  rfl

/-- Settles O43. -/
theorem fillVolumeStoresTheCount : Obligations.FillVolumeStoresTheCount := by
  rintro s p tag index sent count f b pl r fl h g payload ha ⟨ht, hi, hf⟩ hst hsent rfl hcount hg
  refine exec_of_owned (r := .fillVolume) ha ((owned_fillVolume ht hi hsent).trans ?_)
  rw [fillVolume_filling hf hst ((deliveredCount_eq ..).trans hcount.symm) hg, volumeBytes_eq, countNotes_eq]

/-! ### FILL RESUME (R122) -/

theorem State.groundHolds_iff (hb : s.bindingsAgree) : s.groundHolds a h = true ↔
    h.ground = true ∧ ∃ g, (s.line g).func = some (.ground a) ∧ (s.line g).level = .inactive := by
  rw [State.groundHolds, Bool.and_eq_true, beq_iff_eq]
  refine and_congr_right fun _ => ⟨State.boundLevel_some, ?_⟩
  rintro ⟨g, hg, hlevel⟩
  rw [State.boundLevel_of_func hb hg, hlevel]

theorem State.overfillHolds_iff (hb : s.bindingsAgree) : s.overfillHolds a h = true ↔
    h.overfill = true ∧ ∃ o, (s.line o).func = some (.overfill a) ∧ (s.line o).level = .active := by
  rw [State.overfillHolds, Bool.and_eq_true, beq_iff_eq]
  refine and_congr_right fun _ => ⟨State.boundLevel_some, ?_⟩
  rintro ⟨o, ho, hlevel⟩
  rw [State.boundLevel_of_func hb ho, hlevel]

/-- A cause that is not in the set, or whose line does not show it, does not hold. -/
theorem not_holds {cause : Bool} {fn : Func} {lv : Level}
    (h : cause = false ∨ ∀ l, (s.line l).func = some fn → (s.line l).level ≠ lv) :
    ¬ (cause = true ∧ ∃ l, (s.line l).func = some fn ∧ (s.line l).level = lv) := by
  rintro ⟨hcause, l, hl, hlevel⟩
  obtain h | h := h
  · exact Bool.false_ne_true (h.symm.trans hcause)
  · exact h l hl hlevel

theorem fillResume_filling (hf : s.find tag index = some f) (hst : f.comp.st = .filling b pl p r fl h) :
    fillResume p tag index s =
      if h = ⟨false, false, false⟩ then (s, ⟨.state, 7, []⟩)
      else if h.limit = true then (s, ⟨.limitRefused, fl.arm.val + 1, []⟩)
      else if s.groundHolds fl.arm h = true then
        (s, ⟨.unbonded, fl.arm.val + 1, holdingBytes true (s.overfillHolds fl.arm h)⟩)
      else if s.overfillHolds fl.arm h = true then (s, ⟨.overfill, fl.arm.val + 1, [4]⟩)
      else ((s.setComp f.slot { f.comp with st := .filling b pl p r fl ⟨false, false, false⟩ }).driveLatches,
        ⟨.ok, 0, argBytes [(2, fl.delivered), (2, fl.limit - fl.delivered)]⟩) := by
  rw [fillResume, State.withComp_of_find _ hf, needsHold_of_holder _ (by rw [hst]; rfl), stateRefusal, hst]
  exact if_congr HaltSet.isEmpty_iff rfl rfl

/-- Settles O44. -/
theorem fillResumeTestsTheLines : Obligations.FillResumeTestsTheLines := by
  rintro s p tag index f b pl r fl h ha ⟨ht, hi, hf⟩ hb hst
  have hexec : ∀ {u : State} {x : Answer}, fillResume p tag index s = (u, x) →
      exec (.fillResume p (addressBytes tag index)) s = .next (u.reply p 0x52 x) := fun h =>
    exec_of_owned (r := .fillResume) ha ((owned_fillResume ht hi).trans h)
  have hresume := fillResume_filling hf hst
  have hground := State.groundHolds_iff (s := s) (a := fl.arm) (h := h) hb
  have hwet := State.overfillHolds_iff (s := s) (a := fl.arm) (h := h) hb
  have hhalted : h.ground = true ∨ h.overfill = true → h ≠ ⟨false, false, false⟩ := by
    rintro (hcause | hcause) rfl <;> cases hcause
  refine ⟨fun hempty => hexec ?_, fun hlimit => hexec ?_, fun wet hlimit hg hline hiff => hexec ?_,
    fun hlimit hdry ho hline => hexec ?_, fun hne hlimit hdry hovf => hexec ?_⟩
  · rw [hresume, if_pos hempty]
  · rw [hresume, if_neg (by rintro rfl; cases hlimit), if_pos hlimit]
  · have hbit : s.overfillHolds fl.arm h = wet := Bool.eq_iff_iff.2 (hwet.trans hiff.symm)
    rw [hresume, if_neg (hhalted (.inl hg)), if_neg (by rw [hlimit]; exact nofun), if_pos (hground.2 ⟨hg, hline⟩), hbit]
    cases wet <;> rfl
  · rw [hresume, if_neg (hhalted (.inr ho)), if_neg (by rw [hlimit]; exact nofun), if_neg (hground.not.2 (not_holds hdry)),
      if_pos (hwet.2 ⟨ho, hline⟩)]
  · rw [hresume, if_neg hne, if_neg (by rw [hlimit]; exact nofun), if_neg (hground.not.2 (not_holds hdry)),
      if_neg (hwet.not.2 (not_holds hovf))]

/-! ### FILL END (R123, R124) -/

theorem State.endedFill_eq {e : Product} {count : Nat} (he : s.product? fl.product = some e) :
    s.endedFill c b p fl count =
      if fl.limit < count then
        Comp.capture { c with last := some ⟨fl.product, e.cls⟩, st := .loaded ⟨count, false⟩ }
          ⟨.overLimit, s.clock, some p, fl.arm.val + 1⟩
      else { c with last := some ⟨fl.product, e.cls⟩, st := .loaded ⟨count, false⟩ } := by
  rw [State.endedFill, State.loadComp, State.loadedClass_of_product he]
  rfl

theorem fillEnd_filling {e : Product} {count : Nat} (hf : s.find tag index = some f)
    (hst : f.comp.st = .filling b pl p r fl h) (he : s.product? fl.product = some e)
    (hcount : deliveredCount fl.delivered sent = count) :
    fillEnd p tag index sent s = ((s.setComp f.slot
      (if fl.limit < count then
        Comp.capture { f.comp with last := some ⟨fl.product, e.cls⟩, st := .loaded ⟨count, false⟩ }
          ⟨.overLimit, s.clock, some p, fl.arm.val + 1⟩
      else { f.comp with last := some ⟨fl.product, e.cls⟩, st := .loaded ⟨count, false⟩ })).driveLatches,
      ⟨.ok, 0, argBytes [(1, countNotes fl.delivered sent), (1, 8), (2, count), (2, fl.limit),
        (1, if fl.limit < count then 1 else 0)]⟩) := by
  rw [fillEnd, State.withComp_of_find _ hf, needsHold_of_holder _ (by rw [hst]; rfl), hst]
  dsimp only
  rw [hcount, State.endedFill_eq he, boolByte_eq]
  simp [okWith]

/-- Settles O45. -/
theorem fillEndLoads : Obligations.FillEndLoads := by
  rintro s p tag index sent count f b pl r fl h e c payload ha ⟨ht, hi, hf⟩ hst he hsent rfl hcount rfl
  refine exec_of_owned (r := .fillEnd) ha ((owned_fillEnd ht hi hsent).trans ?_)
  rw [fillEnd_filling hf hst he ((deliveredCount_eq ..).trans hcount.symm), countNotes_eq]

end Sys2Proof.Machine
end

section
/-! PROOF. Port roles, access maps and reply limits (R160 to R162, R171). -/

namespace Sys2Proof.Machine

variable {s u : State} {a : Answer} {p q : Port}

/-! ### SET PORT ROLE (R160, R161) -/

theorem checkLong_setPortRoleFields {role : Role} {caps : Caps} (hq : q ≠ .A) (hrole : role ≠ .office)
    (hcaps : role ≠ .wash → caps = ⟨false, false, false⟩) :
    checkLong setPortRoleFields (argBytes [(1, portLetter q), (1, roleCode role), (1, capsCode caps)]) =
      .ok [portLetter q, roleCode role, capsCode caps] := by
  have hletter := portLetter_lt q
  have hcode : roleCode role < 256 := by cases role <;> decide
  have hbits := capsCode_le caps
  have hsuits : capsCode caps = 0 ∨ role = .wash := by
    by_cases hw : role = .wash
    · exact .inr hw
    · exact .inl (by rw [hcaps hw]; rfl)
  refine checkLong_args rfl ?_
  simp [fieldsFit, setPortRoleFields, stationPortField, hq, hrole, hletter, hcode, hbits, arg, hsuits]
  omega

theorem owned_setPortRole {role : Role} {caps : Caps} (hq : q ≠ .A) (hrole : role ≠ .office)
    (hcaps : role ≠ .wash → caps = ⟨false, false, false⟩) :
    s.owned .setPortRole p (argBytes [(1, portLetter q), (1, roleCode role), (1, capsCode caps)]) =
      setPortRole q role caps s := by
  rw [State.owned, checkLong_setPortRoleFields hq hrole hcaps, withArgs_ok]
  show setPortRole ((stationPort (portLetter q)).getD .B) ((roleOfCode (roleCode role)).getD .none)
    (capsOfCode (capsCode caps)) s = _
  rw [stationPort_portLetter hq, roleOfCode_roleCode hrole, capsOfCode_capsCode]
  rfl

theorem State.any_armMap : s.armMap.toList.any (· == some q) = true ↔ ∃ x, s.armPort x = some q := by
  rw [List.any_eq_true]
  constructor
  · rintro ⟨y, hy, hyq⟩
    obtain ⟨i, hi, rfl⟩ := Vector.getElem_of_mem (Vector.mem_toList_iff.1 hy)
    exact ⟨⟨i, hi⟩, beq_iff_eq.1 hyq⟩
  · rintro ⟨x, hx⟩
    exact ⟨s.armPort x, Vector.mem_toList_iff.2 (Vector.getElem_mem ..), by simp [hx]⟩

theorem State.workInHand_held (h : ∃ k c, s.compAt k = some c ∧ c.st.holder = some q) : s.workInHand q = some 1 := by
  obtain ⟨k, c, hc, hheld⟩ := h
  rw [State.workInHand, if_pos]
  have hmem : c ∈ s.heldBy q := State.mem_heldBy.2 ⟨⟨k, hc⟩, hheld⟩
  simpa using List.ne_nil_of_mem hmem

section Idle

variable (hidle : ∀ k c, s.compAt k = some c → c.st.holder ≠ some q)
include hidle

theorem State.workInHand_docked (h : ∃ t k, s.tankerAt t = some k ∧ k.docked = some q) : s.workInHand q = some 2 := by
  obtain ⟨t, k, hk, hd⟩ := h
  have hdocked : (s.dockedTanker q).isSome = true := by
    rw [Option.isSome_iff_ne_none]
    exact fun hnone => State.dockedTanker_eq_none.1 hnone t k hk hd
  rw [State.workInHand, State.heldBy_eq_nil.2 hidle, if_neg (by simp), if_pos hdocked]

theorem State.workInHand_mapped (hfree : ∀ t k, s.tankerAt t = some k → k.docked ≠ some q)
    (h : ∃ x, s.armPort x = some q) : s.workInHand q = some 3 := by
  rw [State.workInHand, State.heldBy_eq_nil.2 hidle, if_neg (by simp), State.dockedTanker_eq_none.2 hfree,
    if_neg (by simp), if_pos (State.any_armMap.2 h)]

theorem State.workInHand_none (hfree : ∀ t k, s.tankerAt t = some k → k.docked ≠ some q)
    (h : ∀ x, s.armPort x ≠ some q) : s.workInHand q = none := by
  rw [State.workInHand, State.heldBy_eq_nil.2 hidle, if_neg (by simp), State.dockedTanker_eq_none.2 hfree,
    if_neg (by simp), if_neg fun hany => (State.any_armMap.1 hany).elim h]

end Idle

/-- Settles O46. -/
theorem setPortRoleUnlessInUse : Obligations.SetPortRoleUnlessInUse := by
  rintro s p q role caps payload ha hq hrole hcaps rfl
  have hexec : ∀ {u : State} {a : Answer}, setPortRole q role caps s = (u, a) →
      exec (.setPortRole p (argBytes [(1, portLetter q), (1, roleCode role), (1, capsCode caps)])) s =
        .next (u.reply p 0x16 a) := fun h =>
    exec_of_owned (r := .setPortRole) ha ((owned_setPortRole hq hrole hcaps).trans h)
  have hbusy : ∀ {d}, s.workInHand q = some d → setPortRole q role caps s = (s, ⟨.inUse, d, []⟩) := fun h => by
    rw [setPortRole, h]
    rfl
  refine ⟨fun h => hexec (hbusy (State.workInHand_held h)), fun hidle =>
    ⟨fun h => hexec (hbusy (State.workInHand_docked hidle h)), fun hfree =>
      ⟨fun h => hexec (hbusy (State.workInHand_mapped hidle hfree h)), fun h => hexec ?_⟩⟩⟩
  rw [setPortRole, State.workInHand_none hidle hfree h]
  simp [okWith]

/-! ### SET ACCESS MAP (R162) -/

theorem pow_256 (n : Nat) : 256 ^ n = 2 ^ (8 * n) := by
  rw [pow_mul]
  norm_num

/-- A bit of a number stands in the byte that its place names. -/
theorem testBit_beValue : ∀ {bs : List Byte} {i j : Nat}, i < bs.length → j < 8 →
    (beValue bs).testBit (8 * (bs.length - 1 - i) + j) = (bs.getD i 0).toNat.testBit j
  | b :: bs, 0, j, _, hj => by
    have hlt := beValue_lt bs
    have hpow := pow_256 bs.length
    rw [hpow] at hlt
    rw [beValue_cons, hpow, Nat.mul_comm, List.length_cons, Nat.testBit_two_pow_mul_add _ hlt, if_neg (by omega)]
    simp
  | b :: bs, i + 1, j, hi, hj => by
    have hlt := beValue_lt bs
    have hpow := pow_256 bs.length
    rw [hpow] at hlt
    have hi' : i < bs.length := by simpa using hi
    have ih := testBit_beValue hi' hj
    have hplace : 8 * ((b :: bs).length - 1 - (i + 1)) + j = 8 * (bs.length - 1 - i) + j := by
      rw [List.length_cons]
      omega
    rw [hplace, beValue_cons, hpow, Nat.mul_comm, Nat.testBit_two_pow_mul_add _ hlt, if_pos (by omega), ih]
    simp

theorem mem_all (r : ReqName) : r ∈ ReqName.all := by cases r <;> decide

theorem nodup_all : ReqName.all.Nodup := by decide

/-- The requests that a map of sixteen bytes denies (R162). -/
theorem mem_mapOf {map : List Byte} (hlen : map.length = 16) (r : ReqName) :
    r ∈ mapOf (beValue map) ↔ (map.getD (r.code / 8) 0).toNat.testBit (r.code % 8) = true := by
  have hcode := reqCode_lt r
  rw [mapOf, List.mem_filter, ← testBit_beValue (by omega) (by omega), hlen]
  exact ⟨And.right, fun h => ⟨mem_all r, h⟩⟩

theorem checkPayload_setAccessMapFields {map : List Byte} (hq : q ≠ .A) (hlen : map.length = 16) :
    checkPayload setAccessMapFields 2 (beBytes 1 (portLetter q) ++ map) = .ok [portLetter q, beValue map] := by
  have hletter := portLetter_lt q
  have hlt := beValue_lt map
  have hbytes := beBytes_beValue map
  rw [hlen] at hlt hbytes
  refine checkPayload_args _ ?_ ?_
  · simp [setAccessMapFields, fieldArgs, stationPortField, anyField, hbytes]
  · simp [setAccessMapFields, fieldsFit, stationPortField, anyField, hq, hletter]
    omega

theorem owned_setAccessMap {map : List Byte} (hq : q ≠ .A) (hlen : map.length = 16) :
    s.owned .setAccessMap p (beBytes 1 (portLetter q) ++ map) = setAccessMap q (mapOf (beValue map)) s := by
  rw [State.owned, checkPayload_setAccessMapFields hq hlen, withArgs_ok]
  show setAccessMap ((stationPort (portLetter q)).getD .B) (mapOf (beValue map)) s = _
  rw [stationPort_portLetter hq]
  rfl

theorem owned_setAccessMap_error {payload : List Byte} {d : Nat}
    (h : checkPayload setAccessMapFields 2 payload = .error d) :
    s.owned .setAccessMap p payload = (s, ⟨.range, d, []⟩) := by
  rw [State.owned, h]
  rfl

theorem checkPayload_setAccessMap_port {b : Byte} {map : List Byte} (hb : b.toNat < 0x42 ∨ 0x46 < b.toNat) :
    checkPayload setAccessMapFields 2 (b :: map) = .error 1 := by
  refine checkPayload_error (takeFields_cons_error (f := stationPortField) (.inr ?_))
  have hillegal : (stationPort b.toNat).isSome ≠ true := fun h => by
    have := isSome_stationPort.1 h
    omega
  show (stationPort (beValue [b])).isSome = false
  rw [beValue_one]
  exact Bool.eq_false_iff.2 hillegal

theorem checkPayload_setAccessMap_length {map : List Byte} (hq : q ≠ .A) (hlen : map.length ≠ 16) :
    checkPayload setAccessMapFields 2 (beBytes 1 (portLetter q) ++ map) = .error 2 := by
  have hport : takeFields setAccessMapFields [] (beBytes 1 (portLetter q) ++ map) =
      takeFields [anyField 16] [portLetter q] map :=
    takeFields_cons_ok (f := stationPortField) (portLetter_lt q) (by simp [stationPortField, hq])
  by_cases hshort : map.length < 16
  · exact checkPayload_error (hport.trans (takeFields_cons_error (.inl hshort)))
  · have htail : map.drop 16 ≠ [] := by
      rw [Ne, List.drop_eq_nil_iff]
      omega
    obtain ⟨x, xs, hx⟩ := List.exists_cons_of_ne_nil htail
    refine checkPayload_tooLong (vs := [portLetter q, beValue (map.take 16)]) (b := x) (rest := xs) (hport.trans ?_)
    rw [takeFields_anyField (got := [portLetter q]) hshort, hx]
    rfl

/-! ### SET REPLY LIMIT (R171) -/

theorem owned_setReplyLimit (b1 b2 : Byte) :
    s.owned .setReplyLimit p [b1, b2] = setReplyLimit p (256 * b1.toNat + b2.toNat) s := by
  rw [← beValue_pair]
  rfl

theorem clampLimit_eq (n : Nat) : clampLimit n = if n < 96 then 96 else if 240 < n then 240 else n := by
  unfold clampLimit
  split_ifs <;> omega

/-- Settles O47. -/
theorem accessMapAndReplyLimit : Obligations.AccessMapAndReplyLimit := by
  refine fun s p => ⟨fun ha => ⟨fun q map hq hlen => ?_, fun b map hb => ?_, fun q map hq hlen => ?_⟩, ?_⟩
  · exact ⟨mapOf (beValue map), exec_of_owned (r := .setAccessMap) ha (owned_setAccessMap hq hlen),
      nodup_all.filter _, mem_mapOf hlen⟩
  · exact exec_of_owned (r := .setAccessMap) ha (owned_setAccessMap_error (checkPayload_setAccessMap_port hb))
  · exact exec_of_owned (r := .setAccessMap) ha (owned_setAccessMap_error (checkPayload_setAccessMap_length hq hlen))
  · rintro b1 b2 n limit ha rfl rfl
    refine exec_of_owned (r := .setReplyLimit) (args := [b1, b2]) ha ((owned_setReplyLimit b1 b2).trans ?_)
    rw [setReplyLimit, clampLimit_eq]
    rfl

end Sys2Proof.Machine
end

section
/-! PROOF. Configuring the field lines, SET LINE and the probe calibration (R150 to R153, R155, R157). -/

namespace Sys2Proof.Machine

variable {s u : State} {a : Answer} {p q : Port} {l m : LineNo} {mode : LineMode} {pol : Polarity} {depth : Nat}
  {fn : Option Func} {cfg : LineConfig}

/-! ### The arguments of CONFIGURE LINE (R152) -/

theorem instanceSuits_func {f : Func} (h1 : f ≠ .washEnable .A) (h2 : f ≠ .rinseProbe .A) :
    instanceSuits (funcCode f) (funcInstance f) = true := by
  cases f with
  | ground a => revert a; decide
  | overfill a => revert a; decide
  | permit a => revert a; decide
  | alarm => rfl
  | washEnable p =>
    show (stationPort (portLetter p)).isSome = true
    rw [stationPort_portLetter fun h => h1 (h ▸ rfl)]
    rfl
  | rinseProbe p =>
    show (stationPort (portLetter p)).isSome = true
    rw [stationPort_portLetter fun h => h2 (h ▸ rfl)]
    rfl

theorem funcCode_le (f : Func) : funcCode f ≤ 6 := by cases f <;> simp [funcCode]

theorem funcInstance_lt (f : Func) : funcInstance f < 256 := by
  cases f with
  | ground a => revert a; decide
  | overfill a => revert a; decide
  | permit a => revert a; decide
  | alarm => decide
  | washEnable p => exact portLetter_lt p
  | rinseProbe p => exact portLetter_lt p

/-- No function, or one that CONFIGURE LINE can name: the instances of port A have no code. -/
def nameable (fn : Option Func) : Prop := ∀ f, fn = some f → f ≠ .washEnable .A ∧ f ≠ .rinseProbe .A

section Arguments

variable (hname : nameable fn)
include hname

theorem funcOfCode_elim : funcOfCode (fn.elim 0 funcCode) (fn.elim 0 funcInstance) = fn := by
  cases fn with
  | none => rfl
  | some f => exact funcOfCode_funcCode (hname f rfl).1 (hname f rfl).2

theorem instanceSuits_elim : instanceSuits (fn.elim 0 funcCode) (fn.elim 0 funcInstance) = true := by
  cases fn with
  | none => rfl
  | some f => exact instanceSuits_func (hname f rfl).1 (hname f rfl).2

theorem checkLong_configureLineFields (hdepth : depth = 0 ∨ depth = 2 ∨ depth = 4 ∨ depth = 8) :
    checkLong configureLineFields (argBytes [(1, l.val), (1, lineModeCode mode), (1, polarityCode pol), (1, depth),
      (1, fn.elim 0 funcCode), (1, fn.elim 0 funcInstance)]) =
      .ok [l.val, lineModeCode mode, polarityCode pol, depth, fn.elim 0 funcCode, fn.elim 0 funcInstance] := by
  have hl := l.isLt
  have hmode : 1 ≤ lineModeCode mode ∧ lineModeCode mode ≤ 5 := by cases mode <;> decide
  have hpol : polarityCode pol ≤ 1 := by cases pol <;> decide
  have hcode : fn.elim 0 funcCode ≤ 6 := by
    cases fn with
    | none => exact Nat.zero_le _
    | some f => exact funcCode_le f
  have hinst : fn.elim 0 funcInstance < 256 := by
    cases fn with
    | none => decide
    | some f => exact funcInstance_lt f
  have hsuits := instanceSuits_elim hname
  refine checkLong_args rfl ?_
  simp only [configureLineFields, fieldsFit, field, arg]
  simp [hsuits]
  omega

theorem owned_configureLine (hdepth : depth = 0 ∨ depth = 2 ∨ depth = 4 ∨ depth = 8) :
    s.owned .configureLine p (argBytes [(1, l.val), (1, lineModeCode mode), (1, polarityCode pol), (1, depth),
      (1, fn.elim 0 funcCode), (1, fn.elim 0 funcInstance)]) = configureLine l ⟨mode, pol, depth, fn⟩ s := by
  rw [State.owned, checkLong_configureLineFields hname hdepth, withArgs_ok]
  show configureLine (Fin.ofNat 24 l.val) ⟨lineModeOfCode (lineModeCode mode), polarityOfCode (polarityCode pol), depth,
    funcOfCode (fn.elim 0 funcCode) (fn.elim 0 funcInstance)⟩ s = _
  rw [Fin.ofNat_val_eq_self, lineModeOfCode_lineModeCode, polarityOfCode_polarityCode, funcOfCode_elim hname]

end Arguments

/-! ### CONFIGURE LINE's own checks (R152) -/

theorem State.configRefusal_locked (h : s.lock = true) : s.configRefusal l cfg = some ⟨.locked, 0, []⟩ := by
  rw [State.configRefusal, if_pos h]
  rfl

section Unlocked

variable (hlock : s.lock = false)
include hlock

theorem State.configRefusal_analog (h1 : cfg.mode = .analog) (h2 : l.val < 16) :
    s.configRefusal l cfg = some ⟨.mode, 1, []⟩ := by
  rw [State.configRefusal, if_neg (by simp [hlock]), if_pos ⟨h1, h2⟩]
  rfl

variable (hanalog : cfg.mode = .analog → 16 ≤ l.val)
include hanalog

theorem State.configRefusal_function {f : Func} (hf : cfg.func = some f) (h : modeSuits cfg.mode f = false) :
    s.configRefusal l cfg = some ⟨.mode, 2, []⟩ := by
  rw [State.configRefusal, if_neg (by simp [hlock]), if_neg fun h => Nat.not_lt.2 (hanalog h.1) h.2,
    if_pos (by simp [hf, h])]
  rfl

variable (hfunc : ∀ f, cfg.func = some f → modeSuits cfg.mode f = true)
include hfunc

theorem State.configRefusal_suited : s.configRefusal l cfg =
    if !depthSuits cfg.mode cfg.depth then some (refuse .mode 3)
    else (s.runningBay l).elim ((s.otherLine l cfg.func).map fun m => refuse .inUse m.val)
      fun q => some (refuse .inUse (portLetter q)) := by
  have hany : ¬ cfg.func.any (fun f => !modeSuits cfg.mode f) = true := by
    simp only [Option.any_eq_true, Bool.not_eq_true', not_exists, not_and, Bool.not_eq_false]
    exact hfunc
  rw [State.configRefusal, if_neg (by simp [hlock]), if_neg fun h => Nat.not_lt.2 (hanalog h.1) h.2, if_neg hany]
  refine if_congr Iff.rfl rfl ?_
  cases s.runningBay l with
  | some q => rfl
  | none => cases s.otherLine l cfg.func <;> rfl

theorem State.configRefusal_depth (h : depthSuits cfg.mode cfg.depth = false) :
    s.configRefusal l cfg = some ⟨.mode, 3, []⟩ := by
  rw [State.configRefusal_suited hlock hanalog hfunc, if_pos (by simp [h])]
  rfl

variable (hdepth : depthSuits cfg.mode cfg.depth = true)
include hdepth

theorem State.configRefusal_running (hq : (s.line l).func = some (.washEnable q)) (hrun : s.washEnableDemand q = true) :
    s.configRefusal l cfg = some ⟨.inUse, portLetter q, []⟩ := by
  have hbay : s.runningBay l = some q := by rw [State.runningBay, hq]; exact if_pos hrun
  rw [State.configRefusal_suited hlock hanalog hfunc, if_neg (by simp [hdepth]), hbay]
  rfl

variable (hstill : ∀ q, (s.line l).func = some (.washEnable q) → s.washEnableDemand q = false)
include hstill

omit hlock hanalog hfunc hdepth in
theorem State.runningBay_of_still : s.runningBay l = none := by
  unfold State.runningBay
  split
  next q hq => exact if_neg (by simp [hstill q hq])
  next => rfl

theorem State.configRefusal_bound (hb : s.bindingsAgree) {f : Func} (hm : m ≠ l) (hf : cfg.func = some f)
    (hbound : (s.line m).func = some f) : s.configRefusal l cfg = some ⟨.inUse, m.val, []⟩ := by
  have hother : s.otherLine l cfg.func = some m := by
    rw [hf]
    refine find_finRange_of_lowest (by simp [hm, hbound]) fun k hk => ?_
    have hne : (s.line k).func ≠ some f := fun h => (hb.1 k m f h hbound ▸ hk).false
    simp [hne]
  rw [State.configRefusal_suited hlock hanalog hfunc, if_neg (by simp [hdepth]), State.runningBay_of_still hstill, hother]
  rfl

theorem State.configRefusal_free (hfree : ∀ m f, m ≠ l → cfg.func = some f → (s.line m).func ≠ some f) :
    s.configRefusal l cfg = none := by
  have hother : s.otherLine l cfg.func = none := by
    unfold State.otherLine
    split
    next f hf =>
      refine List.find?_eq_none.2 fun m _ hm => ?_
      simp only [Bool.and_eq_true, bne_iff_ne, beq_iff_eq] at hm
      exact hfree m f hm.1 hf hm.2
    next => rfl
  rw [State.configRefusal_suited hlock hanalog hfunc, if_neg (by simp [hdepth]), State.runningBay_of_still hstill, hother]
  rfl

end Unlocked

/-! ### The accepted configuration (R153) -/

theorem configureLine_refused (h : s.configRefusal l cfg = some a) : configureLine l cfg s = (s, a) := by
  rw [configureLine, h]

theorem State.newLatch_eq_true : s.newLatch fn = true ↔ ∃ f, fn = some f ∧ s.demand f = some true := by
  unfold State.newLatch
  split
  next f =>
    split
    next d hd => simp [hd]
    next hd => simp [hd]
  next => simp

theorem bindingBytes_eq : bindingBytes fn = argBytes [(1, fn.elim 0 funcCode), (1, fn.elim 0 funcInstance)] := by
  cases fn with
  | none => rfl
  | some f => simp [bindingBytes]

theorem funcByte_eq (x : Line) : funcByte x = x.func.elim 0 funcCode + 16 * x.func.elim 0 funcNibble := by
  unfold funcByte
  cases x.func <;> rfl

/-- The depth as READ LINES carries it (R186). -/
theorem modeByte_eq {x : Line} {d : Nat}
    (h : (x.depth = 0 ∧ d = 0) ∨ (x.depth = 2 ∧ d = 1) ∨ (x.depth = 4 ∧ d = 2) ∨ (x.depth = 8 ∧ d = 3)) :
    modeByte x = lineModeCode x.mode + 8 * polarityCode x.polarity + 16 * d := by
  unfold modeByte
  obtain ⟨hd, rfl⟩ | ⟨hd, rfl⟩ | ⟨hd, rfl⟩ | ⟨hd, rfl⟩ := h <;> rw [hd] <;> rfl

theorem configureLine_accepted (h : s.configRefusal l cfg = none) : configureLine l cfg s =
    (((s.endBinding (s.line l).func).setLine l (s.configured cfg)).beginBinding cfg.func, ⟨.ok, 0,
      argBytes [(1, modeByte (s.configured cfg)), (1, funcByte (s.configured cfg)),
        (1, (s.line l).func.elim 0 funcCode), (1, (s.line l).func.elim 0 funcInstance),
        (1, if s.newLatch cfg.func then 1 else 0)]⟩) := by
  have hlatch : [boolByte (s.configured cfg).latch] = beBytes 1 (if s.newLatch cfg.func then 1 else 0) := boolByte_eq _
  have hdata : beBytes 1 (modeByte (s.configured cfg)) ++ beBytes 1 (funcByte (s.configured cfg))
      ++ bindingBytes (s.line l).func ++ [boolByte (s.configured cfg).latch] =
      argBytes [(1, modeByte (s.configured cfg)), (1, funcByte (s.configured cfg)),
        (1, (s.line l).func.elim 0 funcCode), (1, (s.line l).func.elim 0 funcInstance),
        (1, if s.newLatch cfg.func then 1 else 0)] := by
    rw [bindingBytes_eq, hlatch]
    simp only [argBytes_cons, argBytes_nil, List.append_assoc, List.append_nil]
  rw [configureLine, h]
  exact congrArg (fun bytes => (_, okWith bytes)) hdata

theorem State.configured_line (cfg : LineConfig) (f : Option Func) (m : LineNo) :
    (((s.endBinding f).setLine l (s.configured cfg)).beginBinding cfg.func).line m =
      if m = l then s.configured cfg else s.line m := by
  rw [State.configured_frame]
  exact State.line_setLine ..

theorem depthSuits_eq_false (h : mode = .inputFiltered ∧ depth = 0 ∨ mode ≠ .inputFiltered ∧ depth ≠ 0) :
    depthSuits mode depth = false := by
  obtain ⟨hm, hd⟩ | ⟨hm, hd⟩ := h <;> simp [depthSuits, hm, hd]

theorem depthSuits_eq_true (h : mode = .inputFiltered ∧ depth ≠ 0 ∨ mode ≠ .inputFiltered ∧ depth = 0) :
    depthSuits mode depth = true := by
  obtain ⟨hm, hd⟩ | ⟨hm, hd⟩ := h <;> simp [depthSuits, hm, hd]

/-- Settles O48. -/
theorem configureLineChecksAndReplaces : Obligations.ConfigureLineChecksAndReplaces := by
  rintro s p l mode pol depth fn code inst nibble d _ ha hb hdepth hfn rfl
  obtain ⟨hname, rfl, rfl, rfl⟩ : nameable fn ∧ code = fn.elim 0 funcCode ∧ inst = fn.elim 0 funcInstance ∧
      nibble = fn.elim 0 funcNibble := by
    obtain ⟨rfl, hc, hi, hn⟩ | ⟨f, rfl, hw, hp, hc, hi, hn⟩ := hfn
    · exact ⟨nofun, hc, hi, hn⟩
    · exact ⟨fun _ h => Option.some.inj h ▸ ⟨hw, hp⟩, hc, hi, hn⟩
  have hwidth : depth = 0 ∨ depth = 2 ∨ depth = 4 ∨ depth = 8 :=
    hdepth.imp And.left (Or.imp And.left (Or.imp And.left And.left))
  have hexec := fun (u : State) (a : Answer) (h : configureLine l ⟨mode, pol, depth, fn⟩ s = (u, a)) =>
    exec_of_owned (r := .configureLine) ha ((owned_configureLine hname hwidth).trans h)
  have hrefused := fun (a : Answer) (h : s.configRefusal l ⟨mode, pol, depth, fn⟩ = some a) =>
    hexec s a (configureLine_refused h)
  refine ⟨fun h => hrefused _ (State.configRefusal_locked h), fun hlock h1 h2 =>
    hrefused _ (State.configRefusal_analog hlock h1 h2), fun hlock hanalog => ⟨fun ⟨f, hf, hbad⟩ =>
      hrefused _ (State.configRefusal_function hlock hanalog hf hbad), fun hsuits => ⟨fun h =>
        hrefused _ (State.configRefusal_depth hlock hanalog hsuits (depthSuits_eq_false h)), fun h => ?_⟩⟩⟩
  have hok := depthSuits_eq_true h
  refine ⟨fun q hq hrun => hrefused _ (State.configRefusal_running hlock hanalog hsuits hok hq hrun), fun hstill =>
    ⟨fun m f hm hf hbound => hrefused _ (State.configRefusal_bound hlock hanalog hsuits hok hstill hb hm hf hbound),
      fun hfree => ?_⟩⟩
  have hfree := State.configRefusal_free (cfg := ⟨mode, pol, depth, fn⟩) hlock hanalog hsuits hok hstill hfree
  have hline := State.configured_line (s := s) (l := l) ⟨mode, pol, depth, fn⟩ (s.line l).func
  have hprobe := configured_probe (s := s) (l := l) (s.configured ⟨mode, pol, depth, fn⟩) (s.line l).func fn
  refine ⟨_, s.newLatch fn, (s.line l).func.elim 0 funcCode, (s.line l).func.elim 0 funcInstance,
    (hexec _ _ (configureLine_accepted hfree)).trans ?_, State.newLatch_eq_true, fun h => by rw [h]; exact ⟨rfl, rfl⟩,
    fun f h => by rw [h]; exact ⟨rfl, rfl⟩, (hline l).trans (if_pos rfl), fun m hm => (hline m).trans (if_neg hm),
    fun q hq => (hprobe q).trans (if_pos hq),
    fun q hq hold => (hprobe q).trans ((if_neg hq).trans (if_pos hold)),
    fun q hq hold => (hprobe q).trans ((if_neg hq).trans (if_neg hold)), ?_⟩
  · rw [modeByte_eq (x := s.configured ⟨mode, pol, depth, fn⟩) hdepth, funcByte_eq]
    rfl
  · dsimp only
    rw [State.configured_frame]

/-! ### LOCK LINES, SET LINE and SET PROBE CALIBRATION (R150, R155, R157) -/

theorem checkShort_setLineFields (b1 b2 : Byte) : checkShort setLineFields b1 b2 =
    if b1.toNat < 24 then if b2.toNat < 2 then .ok [b1.toNat, b2.toNat] else .error 2 else .error 1 := by
  rw [setLineFields, checkShort_bytes rfl rfl]
  simp [field, Nat.lt_succ_iff]

theorem owned_setLine (b1 b2 : Byte) : s.owned .setLine p [b1, b2] =
    withArgs (checkShort setLineFields b1 b2) s fun vs => setLine (Fin.ofNat 24 (arg vs 1)) (arg vs 2 == 1) s := rfl

theorem owned_setLine_ok {b1 b2 : Byte} (h1 : b1.toNat = l.val) (h2 : b2.toNat < 2) :
    s.owned .setLine p [b1, b2] = setLine l (b2.toNat == 1) s := by
  rw [owned_setLine, checkShort_setLineFields, if_pos (h1 ▸ l.isLt), if_pos h2, withArgs_ok]
  show setLine (Fin.ofNat 24 b1.toNat) (b2.toNat == 1) s = _
  rw [h1, Fin.ofNat_val_eq_self]

theorem isOutput_iff : isOutput mode = true ↔ mode = .outputPushPull ∨ mode = .outputOpen := by
  simp [isOutput]

theorem boolByte_toNat_beq {b : Byte} (h : b.toNat < 2) : boolByte (b.toNat == 1) = b := by
  obtain h0 | h1 : b.toNat = 0 ∨ b.toNat = 1 := by omega
  · rw [h0]
    exact BitVec.eq_of_toNat_eq h0.symm
  · rw [h1]
    exact BitVec.eq_of_toNat_eq h1.symm

theorem setProbeCalibration_exec {scale : Nat} {offset : Int} (ha : s.admits p .setProbeCalibration) (h1 : 1 ≤ scale)
    (h2 : scale ≤ 1023) (h3 : -2000 ≤ offset) (h4 : offset ≤ 2000) :
    exec (.setProbeCalibration p (beBytes 2 scale ++ beBytes 2 (offset % 65536).toNat)) s =
      .next ((setProbeCalibration scale offset s).1.reply p 0x1B (setProbeCalibration scale offset s).2) := by
  have hsigned : signedValue (offset % 65536).toNat = offset := signedValue_signed (by omega) (by omega)
  have hcheck : checkLong setProbeCalibrationFields (beBytes 2 scale ++ beBytes 2 (offset % 65536).toNat) =
      .ok [scale, (offset % 65536).toNat] := by
    refine checkLong_args (by simp [setProbeCalibrationFields, fieldArgs, field]) ?_
    simp [setProbeCalibrationFields, fieldsFit, field, hsigned]
    omega
  refine exec_of_owned (r := .setProbeCalibration) ha ?_
  rw [State.owned, hcheck, withArgs_ok]
  show setProbeCalibration scale (signedValue (offset % 65536).toNat) s = _
  rw [hsigned]

/-- Settles O49. -/
theorem lockSetAndCalibrate : Obligations.LockSetAndCalibrate := by
  refine fun s p => ⟨fun b1 b2 ha => ?_, fun b1 b2 ha => ?_, fun scale offset ha h1 h2 h3 h4 => ?_⟩
  · refine exec_of_owned (r := .lockLines) (args := [b1, b2]) ha ?_
    show lockLines s = _
    rw [lockLines]
    cases s.lock <;> rfl
  · have hexec := fun (u : State) (a : Answer) (h : s.owned .setLine p [b1, b2] = (u, a)) =>
      exec_of_owned (r := .setLine) (args := [b1, b2]) ha h
    refine ⟨fun h => hexec _ _ ?_, fun h1 h2 => hexec _ _ ?_, fun l h1 h2 =>
      ⟨fun hpush hopen => hexec _ _ ?_, fun hout => ⟨fun f hf => hexec _ _ ?_, fun hf => hexec _ _ ?_⟩⟩⟩
    · rw [owned_setLine, checkShort_setLineFields, if_neg (by omega)]
      rfl
    · rw [owned_setLine, checkShort_setLineFields, if_pos h1, if_neg (by omega)]
      rfl
    · have hno : ¬ isOutput (s.line l).mode = true := fun h => (isOutput_iff.1 h).elim hpush hopen
      rw [owned_setLine_ok h1 h2, setLine, if_pos (by simp [hno])]
      rfl
    · rw [owned_setLine_ok h1 h2, setLine, if_neg (by simp [isOutput_iff.2 hout]), hf]
      rfl
    · have hbit : (b2.toNat == 1) = decide (b2 = 1) :=
        decide_eq_decide.2 (BitVec.toNat_inj (y := 1))
      rw [owned_setLine_ok h1 h2, setLine, if_neg (by simp [isOutput_iff.2 hout]), hf]
      dsimp only
      rw [boolByte_toNat_beq h2, hbit]
      rfl
  · refine ⟨(setProbeCalibration scale offset s).1, (setProbeCalibration_exec ha h1 h2 h3 h4).trans ?_, rfl, rfl,
      fun q hq => ?_, fun q x hq => ?_, rfl⟩
    · simp [setProbeCalibration, okWith, signedBytes, stationPorts]
    · exact (PerPort.get_map ..).trans (congrArg _ hq)
    · exact (PerPort.get_map ..).trans (congrArg _ hq)

end Sys2Proof.Machine
end

section
/-! PROOF. READ STATUS, READ LINES and READ COMPARTMENT (R22, R156, R168). -/

namespace Sys2Proof.Machine

variable {s : State} {p : Port} {tag index : Nat} {f : Found} {c : Comp} {x : Line}

/-! ### READ STATUS (R168) -/

theorem State.tankerCount_eq (s : State) :
    s.tankerCount = (List.finRange 32).countP fun t => (s.tankerAt t).isSome := by
  rw [State.tankerCount, vector_toList, List.countP_map]
  rfl

theorem statusBytes_eq (s : State) (p : Port) {count : Nat → Nat}
    (hcount : ∀ n, count n = (List.finRange 192).countP fun k => (s.compAt k).any fun c => stateCode c.st == n) :
    statusBytes p s = argBytes [(1, portLetter p), (1, roleCode (s.role p)), (1, capsCode (s.capsOf p)),
      (1, (s.port p).limit), (4, s.clock.toNat), (1, (List.finRange 32).countP fun t => (s.tankerAt t).isSome),
      (1, count 1), (1, count 2), (1, count 3), (1, count 4), (1, count 5), (1, count 6), (1, count 7), (1, count 8),
      (1, count 9), (1, s.queue.length),
      (1, (List.finRange 192).countP fun k => (s.compAt k).any fun c => c.incident.isSome),
      (1, if s.lock then 1 else 0)] := by
  have hstate : ∀ n, s.countState n = count n := fun n => (s.countP_records _).trans (hcount n).symm
  have hfull : s.fullSlots = (List.finRange 192).countP fun k => (s.compAt k).any fun c => c.incident.isSome :=
    s.countP_records _
  simp only [statusBytes, hstate, hfull, State.tankerCount_eq, boolByte_eq, List.flatMap_cons, List.flatMap_nil,
    argBytes_cons, argBytes_nil, List.append_assoc, List.append_nil]

/-! ### READ LINES (R156) -/

theorem levelCode_eq {n : Nat} (hanalog : x.mode = .analog → n = x.raw.getD 0)
    (houtput : x.mode = .outputPushPull ∨ x.mode = .outputOpen → n = if x.latch then 1 else 0)
    (hinput : x.mode = .input ∨ x.mode = .inputFiltered →
      (x.level = .inactive → n = 0) ∧ (x.level = .active → n = 1) ∧ (x.level = .unsettled → n = 2)) :
    levelCode x = n := by
  have hlatch : x.latch.toNat = if x.latch then 1 else 0 := by cases x.latch <;> rfl
  have hlevel : x.mode = .input ∨ x.mode = .inputFiltered →
      (match x.level with | .inactive => 0 | .active => 1 | .unsettled => 2) = n := fun hm => by
    obtain ⟨h0, h1, h2⟩ := hinput hm
    cases hl : x.level with
    | inactive => exact (h0 hl).symm
    | active => exact (h1 hl).symm
    | unsettled => exact (h2 hl).symm
  unfold levelCode
  cases hm : x.mode with
  | analog => exact (hanalog hm).symm
  | outputPushPull => exact hlatch.trans (houtput (.inl hm)).symm
  | outputOpen => exact hlatch.trans (houtput (.inr hm)).symm
  | input => exact hlevel (.inl hm)
  | inputFiltered => exact hlevel (.inr hm)

theorem funcByte_of {n : Nat} (hnone : x.func = none → n = 0)
    (hsome : ∀ f, x.func = some f → n = funcCode f + 16 * funcNibble f) : funcByte x = n := by
  rw [funcByte_eq]
  cases hf : x.func with
  | none => exact (hnone hf).symm
  | some f => exact (hsome f hf).symm

theorem noRawBit_eq : noRawBit x = if x.mode = .analog ∧ x.raw = none then 128 else 0 := by
  rw [noRawBit, if_congr (by rw [Option.isNone_iff_eq_none]) rfl rfl]

theorem lineBytes_eq (x : Line) :
    lineBytes x = argBytes [(1, modeByte x + 64 * (levelCode x / 256)), (1, funcByte x + noRawBit x),
      (1, levelCode x % 256)] := by
  simp [lineBytes]

theorem readLines_eq (s : State) :
    readLines s = (s, ⟨.ok, 0, (if s.lock then 1 else 0) :: (List.finRange 24).flatMap fun l => lineBytes (s.line l)⟩) := by
  have hbyte : boolByte s.lock = if s.lock then 1 else 0 := by cases s.lock <;> rfl
  rw [readLines, okWith, vector_toList, List.flatMap_map, hbyte]
  rfl

/-- Settles O50. -/
theorem statusAndLinesAreRead : Obligations.StatusAndLinesAreRead := by
  refine fun s p b1 b2 => ⟨fun ha count hcount => ?_, fun ha hl depth level func noRaw hdepth hlevel hfunc hraw => ?_⟩
  · refine exec_of_owned (r := .readStatus) (args := [b1, b2]) ha ?_
    rw [← statusBytes_eq s p hcount]
    rfl
  · refine exec_of_owned (r := .readLines) (args := [b1, b2]) ha ((readLines_eq s).trans ?_)
    refine congrArg (fun bytes => (s, Answer.mk .ok 0 (_ :: bytes))) (List.flatMap_congr fun l _ => ?_)
    obtain ⟨-, hwidth, -⟩ := hl l
    obtain ⟨h0, h2, h4, h8⟩ := hdepth l
    obtain ⟨hanalog, houtput, hinput⟩ := hlevel l
    obtain ⟨hnone, hsome⟩ := hfunc l
    rw [lineBytes_eq, modeByte_eq (d := depth l) (hwidth.imp (fun h => ⟨h, h0 h⟩) (Or.imp (fun h => ⟨h, h2 h⟩)
      (Or.imp (fun h => ⟨h, h4 h⟩) fun h => ⟨h, h8 h⟩))), levelCode_eq hanalog houtput hinput, funcByte_of hnone hsome,
      noRawBit_eq, hraw l]

/-! ### READ COMPARTMENT (R22) -/

theorem optPart_eq_markedBytes {α : Type} {y : Option α} {bytes : α → List Byte} {parts : α → List (Nat × Nat)}
    (h : ∀ a, y = some a → bytes a = argBytes (parts a)) : optPart y bytes = markedBytes (y.map parts) := by
  cases y with
  | none => rfl
  | some a => exact congrArg (1 :: ·) (h a rfl)

theorem currentMediumCode_eq {pl : Plan} {medium : Nat}
    (hsome : ∀ st, pl.steps[pl.index - 1]? = some st → medium = mediumCode st.medium)
    (hnone : pl.steps[pl.index - 1]? = none → medium = 0) : currentMediumCode pl = medium := by
  unfold currentMediumCode
  split
  next st hst => exact (hsome st hst).symm
  next hst => exact (hnone hst).symm

theorem planBytes_eq {pl : Plan} {medium : Nat} (h : currentMediumCode pl = medium) :
    planBytes pl = argBytes [(1, pl.level), (1, pl.steps.length), (1, pl.index), (1, medium), (2, pl.dose),
      (2, pl.active), (1, pl.silence), (1, pl.mismatch), (1, capsCode pl.needs + if pl.foodBay then 128 else 0)] := by
  have hbit : 128 * pl.foodBay.toNat = if pl.foodBay then 128 else 0 := by cases pl.foodBay <;> rfl
  simp only [planBytes, h, hbit, argBytes_cons, argBytes_nil, List.append_assoc, List.append_nil]

theorem releaseBytes_eq (r : Release) :
    releaseBytes r = argBytes [(2, r.target), (1, r.performed),
      (1, (if r.foodBay then 1 else 0) + if r.frozen then 2 else 0), (2, r.conductivity), (3, r.closureTag),
      (4, r.time.toNat), (3, r.remaining)] := by
  have hbit : r.foodBay.toNat = if r.foodBay then 1 else 0 := by cases r.foodBay <;> rfl
  have hfrozen : 2 * r.frozen.toNat = if r.frozen then 2 else 0 := by cases r.frozen <;> rfl
  simp only [releaseBytes, hbit, hfrozen, argBytes_cons, argBytes_nil, List.append_assoc, List.append_nil]

theorem loadedBytes_eq (q : Loaded) :
    loadedBytes q = argBytes [(2, q.quantity), (1, if q.partLoaded then 1 else 0)] := by
  simp only [loadedBytes, boolByte_eq, argBytes_cons, argBytes_nil, List.append_nil]

theorem slotBytes_of_empty (h : c.incident = none) : slotBytes c = argBytes [(1, 0)] := by
  rw [slotBytes, h]
  rfl

theorem slotBytes_of_full {i : Incident} (h : c.incident = some i) :
    slotBytes c = argBytes [(1, incidentCode i.kind), (4, i.time.toNat), (1, portCode i.port), (1, i.detail),
      (1, if c.overflow then 1 else 0)] := by
  rw [slotBytes, h]
  simp only [incidentBytes, boolByte_eq, argBytes_cons, argBytes_nil, List.append_assoc, List.append_nil]

/-- The record as R22 lays it out, for the tag, index and slot the compartment is found under. -/
theorem recordBytes_eq (hu : s.tablesAgree) (hn : s.names tag index f) {medium : Nat}
    (hmedium : ∀ pl, f.comp.st.plan = some pl → currentMediumCode pl = medium) :
    recordBytes f =
      argBytes [(2, tag), (1, index), (1, 6 * f.tslot.val + index - 1), (2, f.comp.capacity),
        (4, f.tanker.arrival.toNat), (1, portCode f.tanker.docked), (1, stateCode f.comp.st), (1, phaseCode f.comp.st)]
      ++ markedBytes (f.comp.last.map fun l => [(2, l.code), (1, l.cls.val)])
      ++ argBytes [(1, f.comp.performed), (1, f.comp.faults), (1, portCode f.comp.st.holder)]
      ++ markedBytes (f.comp.st.booking.map fun b => [(2, b.target), (1, b.cls.val), (1, priorityCode b.priority)])
      ++ markedBytes (f.comp.st.plan.map fun pl => [(1, pl.level), (1, pl.steps.length), (1, pl.index), (1, medium),
          (2, pl.dose), (2, pl.active), (1, pl.silence), (1, pl.mismatch),
          (1, capsCode pl.needs + if pl.foodBay then 128 else 0)])
      ++ markedBytes (f.comp.reading.map fun r => [(2, r.conductivity), (1, sourceCode r.source)])
      ++ markedBytes (f.comp.st.release.map fun r => [(2, r.target), (1, r.performed),
          (1, (if r.foodBay then 1 else 0) + if r.frozen then 2 else 0), (2, r.conductivity), (3, r.closureTag),
          (4, r.time.toNat), (3, r.remaining)])
      ++ markedBytes (f.comp.st.fill.map fun x => [(1, x.1.arm.val + 1), (2, x.1.product), (2, x.1.limit),
          (2, x.1.delivered)])
      ++ markedBytes (f.comp.st.loadedPart.map fun q => [(2, q.quantity), (1, if q.partLoaded then 1 else 0)])
      ++ slotBytes f.comp := by
  obtain ⟨-, ⟨hi, hi6⟩, hf⟩ := hn
  obtain ⟨-, -, hslot, -⟩ := State.find_some hf
  have hentry : f.comp.entry = ⟨tag, index⟩ := State.find_entry (e := ⟨tag, index⟩) hu hf
  have htag : f.comp.tag = tag := congrArg Entry.tag hentry
  have hindex : f.comp.index = index := congrArg Entry.index hentry
  have hval : f.slot.val = 6 * f.tslot.val + index - 1 := by
    rw [hslot, compSlot_val f.tslot hi hi6]
    omega
  rw [recordBytes, htag, hindex, hval,
    optPart_eq_markedBytes (parts := fun l => [(2, l.code), (1, l.cls.val)]) (by simp),
    optPart_eq_markedBytes (bytes := bookingBytes)
      (parts := fun b => [(2, b.target), (1, b.cls.val), (1, priorityCode b.priority)]) (by simp [bookingBytes]),
    optPart_eq_markedBytes (bytes := planBytes) fun pl hpl => planBytes_eq (hmedium pl hpl),
    optPart_eq_markedBytes (bytes := readingBytes) (parts := fun r => [(2, r.conductivity), (1, sourceCode r.source)])
      (by simp [readingBytes]),
    optPart_eq_markedBytes (bytes := releaseBytes) fun r _ => releaseBytes_eq r,
    optPart_eq_markedBytes (bytes := fillBytes)
      (parts := fun x => [(1, x.1.arm.val + 1), (2, x.1.product), (2, x.1.limit), (2, x.1.delivered)])
      (by simp [fillBytes, armNumber]),
    optPart_eq_markedBytes (bytes := loadedBytes) fun q _ => loadedBytes_eq q]
  simp only [argBytes_cons, argBytes_nil, List.append_assoc, List.append_nil]

/-- Settles O51. -/
theorem compartmentRecordIsRead : Obligations.CompartmentRecordIsRead := by
  intro s p tag index medium f ha hn hu hmedium
  obtain ⟨ht, hi, hf⟩ := hn
  refine exec_of_owned (r := .readCompartment) ha ((owned_readCompartment ht hi).trans ?_)
  rw [readCompartment, State.withComp_of_find _ hf, recordBytes_eq hu ⟨ht, hi, hf⟩ fun pl hpl =>
    currentMediumCode_eq (hmedium pl hpl).1 (hmedium pl hpl).2]
  cases hinc : f.comp.incident with
  | none => rw [slotBytes_of_empty hinc]; rfl
  | some i => rw [slotBytes_of_full hinc]; rfl

end Sys2Proof.Machine
end

section
/-! PROOF. READ RECORDS and READ QUEUE (R63, R169, R170). -/

namespace Sys2Proof.Machine

variable {s : State} {p : Port} {count : Nat} {cursor : Slot} {up : Bool}

/-! ### The walk (R169) -/

/-- The occupied slots of a list, with their records. -/
def State.occupied (s : State) (ks : List Slot) : List (Slot × Comp) :=
  ks.filterMap fun k => (s.compAt k).map fun c => (k, c)

theorem State.occupied_cons_none {k : Slot} {ks : List Slot} (h : s.compAt k = none) :
    s.occupied (k :: ks) = s.occupied ks :=
  List.filterMap_cons_none (by rw [h]; rfl)

theorem State.occupied_cons_some {k : Slot} {ks : List Slot} {c : Comp} (h : s.compAt k = some c) :
    s.occupied (k :: ks) = (k, c) :: s.occupied ks :=
  List.filterMap_cons_some (by rw [h]; rfl)

/-- A walk gives the first occupied slots, and stops at the one that finds no room (R169). -/
theorem State.walk_eq (s : State) : ∀ (ks : List Slot) (room : Nat),
    s.walk ks room = ((s.occupied ks).take room, (s.occupied ks)[room]?.map Prod.fst)
  | [], room => by cases room <;> rfl
  | k :: ks, room => by
    rw [State.walk]
    cases hk : s.compAt k with
    | none => rw [State.occupied_cons_none hk]; exact s.walk_eq ks room
    | some c =>
      rw [State.occupied_cons_some hk]
      cases room with
      | zero => rfl
      | succ n =>
        dsimp only
        rw [s.walk_eq ks n]
        rfl

theorem drop_eq_filter {α : Type} {l : List α} {P : α → Bool} {n : Nat}
    (h : ∀ i (hi : i < l.length), P l[i] = decide (n ≤ i)) : l.drop n = l.filter P := by
  have hfront : (l.take n).filter P = [] := List.filter_eq_nil_iff.2 fun a ha => by
    obtain ⟨i, hi, rfl⟩ := List.mem_iff_getElem.1 ha
    rw [List.length_take] at hi
    rw [List.getElem_take, h i (by omega)]
    simp
    omega
  have hback : (l.drop n).filter P = l.drop n := List.filter_eq_self.2 fun a ha => by
    obtain ⟨i, hi, rfl⟩ := List.mem_iff_getElem.1 ha
    rw [List.length_drop] at hi
    rw [List.getElem_drop, h (n + i) (by omega)]
    simp
  calc l.drop n = [] ++ (l.drop n).filter P := by rw [hback, List.nil_append]
    _ = (l.take n ++ l.drop n).filter P := by rw [List.filter_append, hfront]
    _ = l.filter P := by rw [List.take_append_drop]

theorem take_eq_filter {α : Type} {l : List α} {P : α → Bool} {n : Nat}
    (h : ∀ i (hi : i < l.length), P l[i] = decide (i < n)) : l.take n = l.filter P := by
  have hfront : (l.take n).filter P = l.take n := List.filter_eq_self.2 fun a ha => by
    obtain ⟨i, hi, rfl⟩ := List.mem_iff_getElem.1 ha
    rw [List.length_take] at hi
    rw [List.getElem_take, h i (by omega)]
    simp
    omega
  have hback : (l.drop n).filter P = [] := List.filter_eq_nil_iff.2 fun a ha => by
    obtain ⟨i, hi, rfl⟩ := List.mem_iff_getElem.1 ha
    rw [List.length_drop] at hi
    rw [List.getElem_drop, h (n + i) (by omega)]
    simp
  calc l.take n = (l.take n).filter P ++ [] := by rw [hfront, List.append_nil]
    _ = (l.take n ++ l.drop n).filter P := by rw [List.filter_append, hback]
    _ = l.filter P := by rw [List.take_append_drop]

theorem walkSlots_eq (cursor : Slot) (up : Bool) : walkSlots cursor.val up =
    if up then (List.finRange 192).filter (fun k => cursor.val ≤ k.val)
    else ((List.finRange 192).filter (fun k => k.val ≤ cursor.val)).reverse := by
  rw [walkSlots, drop_eq_filter (P := fun k => cursor.val ≤ k.val) (by simp),
    take_eq_filter (P := fun k => k.val ≤ cursor.val) (by simp [Nat.lt_succ_iff])]

/-! ### READ RECORDS (R169, R170) -/

theorem summaryBytes_eq (x : Slot × Comp) {target priority : Nat}
    (hsome : ∀ b, x.2.st.booking = some b → target = b.target ∧ priority = priorityCode b.priority)
    (hnone : x.2.st.booking = none → target = 0 ∧ priority = 0) :
    summaryBytes x = argBytes [(1, x.1.val), (2, x.2.tag), (1, x.2.index), (1, stateCode x.2.st),
      (1, phaseCode x.2.st), (1, portCode x.2.st.holder), (2, target), (1, priority),
      (1, 16 * x.2.performed + x.2.faults),
      (1, (if x.2.incident.isSome then 1 else 0) + if x.2.overflow then 2 else 0)] := by
  have hfull : x.2.incident.isSome.toNat = if x.2.incident.isSome then 1 else 0 := by cases x.2.incident.isSome <;> rfl
  have hover : 2 * x.2.overflow.toNat = if x.2.overflow then 2 else 0 := by cases x.2.overflow <;> rfl
  unfold summaryBytes
  rw [hfull, hover]
  cases hb : x.2.st.booking with
  | some b =>
    obtain ⟨rfl, rfl⟩ := hsome b hb
    simp only [argBytes_cons, argBytes_nil, List.append_assoc, List.append_nil]
  | none =>
    obtain ⟨rfl, rfl⟩ := hnone hb
    have hzero : ([0, 0, 0] : List Byte) = beBytes 2 0 ++ beBytes 1 0 := rfl
    simp only [hzero, argBytes_cons, argBytes_nil, List.append_assoc, List.append_nil]

theorem walkBytes_eq (s : State) (cursor : Slot) (count : Nat) (up : Bool) (given : List (Slot × Comp))
    (stop : Option (Slot × Comp)) : walkBytes s cursor.val count up (given, stop.map Prod.fst) =
    argBytes [(1, (s.compAt cursor).elim 0 fun c => stateCode c.st),
      (1, stop.elim (if up then 0 else 191) fun x => x.1.val), (1, count - given.length),
      (1, if stop.isNone then 1 else 0), (1, given.length)] ++ given.flatMap summaryBytes := by
  have hstate : s.cursorState cursor.val = (s.compAt cursor).elim 0 fun c => stateCode c.st := by
    rw [State.cursorState, Fin.ofNat_val_eq_self]
    cases s.compAt cursor <;> rfl
  unfold walkBytes
  rw [hstate, boolByte_eq]
  cases stop <;>
    simp only [argBytes_cons, argBytes_nil, List.append_assoc, List.append_nil, Option.map_none, Option.map_some,
      Option.isNone_none, Option.isNone_some, Option.elim_none, Option.elim_some]

theorem owned_readRecords (h1 : 1 ≤ count) (h2 : count ≤ 192) :
    s.owned .readRecords p (argBytes [(1, cursor.val), (1, count), (1, if up then 0 else 1)]) =
      readRecords p cursor.val count up s := by
  have hdir : (if up then 0 else 1) ≤ 1 := by cases up <;> decide
  rw [State.owned, checkLong_readRecordsFields (by omega) ⟨h1, h2⟩ hdir, withArgs_ok]
  cases up <;> rfl

/-! ### READ QUEUE (R63) -/

theorem owned_readQueue (b1 b2 : Byte) : s.owned .readQueue p [b1, b2] =
    if 1 ≤ 256 * b1.toNat + b2.toNat ∧ 256 * b1.toNat + b2.toNat ≤ 192 then
      readQueue p (256 * b1.toNat + b2.toNat) s
    else (s, ⟨.range, 1, []⟩) := by
  show withArgs (checkShort readQueueFields b1 b2) s (fun vs => readQueue p (arg vs 1) s) = _
  rw [readQueueFields, checkShort_wide]
  split_ifs <;> rfl

theorem entryBytes_eq {e : Entry} {f : Found} {b : Booking} {pl : Plan} (hf : s.find e.tag e.index = some f)
    (hst : f.comp.st = .queued b pl) :
    entryBytes s e = argBytes [(2, e.tag), (1, e.index), (1, 16 * priorityCode b.priority + pl.level),
      (1, capsCode pl.needs), (1, portCode f.tanker.docked)] := by
  rw [entryBytes, hf]
  simp [hst, CompState.booking, CompState.plan]

/-- Settles O52. -/
theorem recordsAndQueueAreRead : Obligations.RecordsAndQueueAreRead := by
  refine fun s p => ⟨?_, fun b1 b2 start ha hstart => ?_⟩
  · rintro cursor count room up _ occupied given target priority ha h1 h2 rfl hocc hroom rfl hbook
    refine exec_of_owned (r := .readRecords) ha ((owned_readRecords h1 h2).trans ?_)
    have hplace : walkRoom s p count = room := hroom.symm
    have hsame : s.occupied (walkSlots cursor.val up) = occupied := by
      rw [walkSlots_eq, hocc]
      rfl
    have hsummaries : ∀ l : List (Slot × Comp), l.flatMap summaryBytes = _ := fun l =>
      List.flatMap_congr fun x _ => summaryBytes_eq x (hbook x.2).1 (hbook x.2).2
    have hend : occupied[room]?.isNone = true ↔ occupied.length ≤ room := by simp
    rw [readRecords, hplace, State.walk_eq, hsame, walkBytes_eq, hsummaries, if_congr hend rfl rfl]
    cases s.compAt cursor <;> cases occupied[room]? <;> rfl
  · have hexec := fun (u : State) (a : Answer) (h : s.owned .readQueue p [b1, b2] = (u, a)) =>
      exec_of_owned (r := .readQueue) (args := [b1, b2]) ha h
    refine ⟨fun h => hexec _ _ ?_, fun page h1 h2 hpage hfound => hexec _ _ ?_⟩
    · rw [owned_readQueue, if_neg (by omega)]
    · have hgiven : queuePage s p start = page.map (·.1) := hpage.symm
      have hentries := List.flatMap_congr (l := page) (f := fun x => entryBytes s x.1) fun x hx =>
        entryBytes_eq (hfound x hx).1 (hfound x hx).2
      rw [owned_readQueue, if_pos (by omega), ← hstart, readQueue, hgiven, List.length_map, List.flatMap_map, hentries]
      simp only [okWith, argBytes_cons, argBytes_nil, List.append_nil]

end Sys2Proof.Machine
end

end
